-- ==== Sys2Proof/Word.lean ====
section
/-! DEFINITION. The bit-level values of the Machine Link: a byte of the line and a 16-bit word of a body or a check
(R174, R175). Every other quantity of the TL-440 is a number, and is a `Nat` or an `Int`. -/

namespace Sys2Proof

/-- One byte of the Machine Link (R172). -/
abbrev Byte := BitVec 8

/-- A 16-bit word: a kind, a tag, a check, a word of the memory test (R174, R175, R190). -/
abbrev Word := BitVec 16

end Sys2Proof
end

