-- ==== Sys2Proof/Syntax.lean ====
section
/-! DEFINITION. The commands of the TL-440: one constructor of `Instr` for each row of spec/opcode_table.json, with the
operands the Machine Link or the Field Side brings with it. -/

namespace Sys2Proof

/-- The four tamping units (R118). -/
inductive UnitId where
  | lo | li | ri | ro
  deriving DecidableEq, Repr

/-- One value for each of the four tamping units. -/
structure Quad (α : Type) where
  lo : α
  li : α
  ri : α
  ro : α
  deriving DecidableEq, Repr

/-- The nine sample channels (R84); the pressure channels are named by their unit. -/
inductive Channel where
  | line | levelL | levelR | cant | hook
  | press (u : UnitId)
  deriving DecidableEq, Repr

/-- One value for each of the nine sample channels (R84). -/
structure Channels (α : Type) where
  line   : α
  levelL : α
  levelR : α
  cant   : α
  hook   : α
  press  : Quad α
  deriving DecidableEq, Repr

/-- What a sample carries for one channel: a value and its valid mark (R84). -/
structure Reading where
  value : Int
  valid : Bool
  deriving DecidableEq, Repr

/-- The six valves of the self-test's group 1 items (R189). -/
inductive Valve where
  | lowering (u : UnitId)
  | lluLift
  | branchHook
  deriving DecidableEq, Repr

/-- The commands. A request of the Machine Link is the TAKE of one request frame (R179): it carries the frame's tag and the
bytes of its body after kind and tag. A completion carries the number of the order it completes (R121, R145). -/
inductive Instr where
  /-- POWER_ON (R173): the park indication of each unit, the clamps-open indication and the stop line as the Field Side
  presents them (R120, R144, R162). -/
  | powerOn (park : Quad Bool) (clampsOpen stopLine : Bool)
  | identify (tag : Word) (body : List Byte)
  | readStatus (tag : Word) (body : List Byte)
  | setParameters (tag : Word) (body : List Byte)
  | readParameters (tag : Word) (body : List Byte)
  | loadEntry (tag : Word) (body : List Byte)
  | collectResults (tag : Word) (body : List Byte)
  | readQueue (tag : Word) (body : List Byte)
  | clearQueue (tag : Word) (body : List Byte)
  | startJob (tag : Word) (body : List Byte)
  | pauseJob (tag : Word) (body : List Byte)
  | resumeJob (tag : Word) (body : List Byte)
  | retryEntry (tag : Word) (body : List Byte)
  | skipEntry (tag : Word) (body : List Byte)
  | abortJob (tag : Word) (body : List Byte)
  | parkAll (tag : Word) (body : List Byte)
  | openTable (tag : Word) (body : List Byte)
  | tableSegment (tag : Word) (body : List Byte)
  | closeTable (tag : Word) (body : List Byte)
  | readTable (tag : Word) (body : List Byte)
  | readMeasurement (tag : Word) (body : List Byte)
  | readTrail (tag : Word) (body : List Byte)
  | selfTest (tag : Word) (body : List Byte)
  | restart (tag : Word) (body : List Byte)
  /-- The take of a frame whose kind is none of the 23 request kinds (R180). -/
  | unknownKindRequest (kind tag : Word) (body : List Byte)
  /-- The last check byte of a frame arrives (R178). -/
  | frameReceived (b : Byte)
  | interByteTimeout
  /-- The last byte of the frame on the line has been sent (R182). -/
  | frameSent
  | restartEffect
  | sampleArrival (sample : Channels Reading)
  | sampleTimerExpiry
  /-- An odometer step, with its signed increment in mm (R100). -/
  | odometerStep (mm : Int)
  | positionSettleExpiry
  | stopLineAssertion
  | stopLineRelease
  | unitGrant (u : UnitId)
  | lluGrant
  | shiftReached (u : UnitId) (number : Nat)
  | depthReached (u : UnitId) (number : Nat)
  | tinesOpen (u : UnitId) (number : Nat)
  | atMid (u : UnitId) (number : Nat)
  | atPark (u : UnitId) (number : Nat)
  | shiftTimeout (u : UnitId)
  | insertionTimerExpiry (u : UnitId)
  | squeezeTimerExpiry (u : UnitId)
  | openTimeout (u : UnitId)
  | raiseMidTimeout (u : UnitId)
  | raiseParkTimeout (u : UnitId)
  | clamped (number : Nat)
  | forceLimit (number : Nat)
  | unclamped (number : Nat)
  | clampTimeout
  | liftTimerExpiry
  | unclampTimeout
  | joinHoldExpiry
  | lluSettleExpiry
  /-- VALVE_READBACK: the valve it names and the spool position it gives, per mille (R189). -/
  | valveReadback (valve : Valve) (position : Nat)
  | selfTestItemExpiry
  /-- The memory test reads a word back different from what it wrote (R190). -/
  | memoryMismatch (wordRead wordWritten : Word)
  /-- A byte arrives on the line before a frame's last check byte (R176). -/
  | byteReceived (b : Byte)
  deriving DecidableEq, Repr

end Sys2Proof
end

