-- ==== Sys2Proof/Decode.lean ====
section
/-! DEFINITION. The commands that a word spells by the bits of spec/opcode_table.json. The table gives no row any bits: a request
comes as a frame of bytes, which the receiver and the operand forms read, and an event as itself (DESIGN CHOICE, safe, log
entry 30). -/

namespace Sys2Proof

/-- The command a word of `nbits` bits spells by the table: none, since no row of the table gives bits. -/
def decodeTableWord (_nbits _w : Nat) : Option Instr := none

end Sys2Proof
end

