-- ==== Sys2Proof/Machine/State.lean ====
section
/-! DEFINITION. The state of the TL-440, block by block as 00_scope.md lists the blocks, and the state right after
power-on. Every track quantity is an exact integer in the manual's unit (0.1 mm, mm, bar, ms); a timer is stopped, or
running with the time it was last started with. -/

namespace Sys2Proof.Machine

/-- A timer: `none` is stopped, `some ms` is running, last started with `ms` milliseconds (DESIGN CHOICE, safe, log entry 3). -/
abbrev Timer := Option Nat

/-- A rail, or a side (R1, R43). -/
inductive Side where
  | left | right
  deriving DecidableEq, Repr

/-! ## Sleeper entries and the Work Queue (chapter 1) -/

/-- One unit's settings for an entry (R2). -/
structure UnitSettings where
  /-- The tines used, FO, FI, BO, BI at bits 0 to 3: 0 to 15. -/
  mask       : Nat
  shift      : Int
  depth      : Int
  pressure   : Int
  insertions : Nat
  deriving DecidableEq, Repr

/-- A sleeper entry (R1, R2, R3). An absent optional field stands as its default 0; the branch offset has none. -/
structure Entry where
  number      : Nat
  distance    : Nat
  joinedNext  : Bool
  isEnd       : Bool
  hook        : Bool
  hookSide    : Side
  allowance   : Int
  units       : Quad UnitSettings
  frontOffset : Int
  frontLift   : Int
  localCurv   : Int
  localCant   : Int
  branch      : Option Int
  deriving DecidableEq, Repr

/-- The states of a slot (R6), in the order of their codes (R193). -/
inductive SlotState where
  | free | ready | active | faulted | done | partDone | skipped | aborted
  deriving DecidableEq, Repr

/-- The seven correction flags (R16). -/
structure CorrFlags where
  lineClamped : Bool
  liftClamped : Bool
  trackHigh   : Bool
  cantLimited : Bool
  sensorHeld  : Bool
  joinBroken  : Bool
  reused      : Bool
  deriving DecidableEq, Repr

/-- The correction record (R63). -/
structure Correction where
  c        : Int
  d        : Int
  rl       : Int
  rv       : Int
  grade    : Side
  s        : Int
  uL       : Int
  uR       : Int
  hookLift : Option Int
  hookSide : Option Side
  flags    : CorrFlags
  deriving DecidableEq, Repr

/-- The values the LLU has achieved on its axes (R142); the hook axis is absent without the hook. -/
structure Achieved where
  line  : Int
  left  : Int
  right : Int
  hook  : Option Int
  deriving DecidableEq, Repr

/-- The achievement a result takes from the LLU: its achieved values and its two flags (R17). -/
structure Achievement where
  values    : Achieved
  liftShort : Bool
  lineForce : Bool
  deriving DecidableEq, Repr

/-- One unit's part of a result (R18, R118). -/
structure UnitResult where
  used            : Bool
  completed       : Nat
  retriesUsed     : Nat
  blocked         : Bool
  squeezeLow      : Bool
  pressureUnknown : Bool
  deriving DecidableEq, Repr

/-- A unit's result with nothing in it (R120, R123). -/
def UnitResult.empty : UnitResult := ⟨false, 0, 0, false, false, false⟩

/-- The fault codes (R25), in the order of their codes from 1. -/
inductive FaultCode where
  | unitBlocked | unitStuck | clampFailed | sensorLost | offTable
  | positionFailed | movedWhileWorking | travelLimit | stopLine
  deriving DecidableEq, Repr

/-- The sources of a fault (R25), in the order of their codes. -/
inductive FaultSource where
  | unit (u : UnitId)
  | llu | travel | computation | stopLine
  deriving DecidableEq, Repr

/-- The correction part of a result (R16): the hook lift is absent when the entry's HOOK is clear (R65). -/
structure ResultCorrection where
  s        : Int
  uL       : Int
  uR       : Int
  hookLift : Option Int
  flags    : CorrFlags
  deriving DecidableEq, Repr

/-- A result record (R16, R17, R18). -/
structure Result where
  number          : Nat
  slot            : Nat
  final           : SlotState
  c               : Option Int
  correction      : Option ResultCorrection
  achieved        : Option Achievement
  residual        : Option (Int × Int)
  residualMissing : Bool
  units           : Quad UnitResult
  fault           : Option FaultCode
  retries         : Nat
  deriving DecidableEq, Repr

/-- What a slot keeps of its working when a halt makes it FAULTED (R37, R133, R161; DEDUCED, unsafe, log entry 17). -/
structure Kept where
  units    : Quad UnitResult
  achieved : Option Achievement
  deriving DecidableEq, Repr

/-- One occupied slot (R5): the entry as stored, its chain position, its RETRY count and state, the copy of the correction
record (R66), what a halt kept (R37), and the result record. -/
structure Slot where
  state    : SlotState
  entry    : Entry
  chainPos : Nat
  retries  : Nat
  copy     : Option Correction
  kept     : Option Kept
  result   : Option Result
  deriving DecidableEq, Repr

/-- The ring of 64 slots (R4): the oldest index, and the records of the occupied slots from the oldest on. The occupied
count is the length of `slots`, the slot at place `k` has index `(oldest + k) mod 64`, and every other slot is FREE and
holds no record. -/
structure WorkQueue where
  oldest : Nat
  slots  : List Slot
  deriving DecidableEq, Repr

/-! ## The job (chapter 2) -/

/-- The job states (R23). -/
inductive JobState where
  | idle | running | paused | halted
  deriving DecidableEq, Repr

/-- The entry phases (R24). -/
inductive Phase where
  | positioning | working | releasing | holding | starved
  deriving DecidableEq, Repr

/-- Why the job last became IDLE (R23). -/
inductive EndReason where
  | none | completed | aborted | restart | powerOn
  deriving DecidableEq, Repr

/-- The halt record (R25). -/
structure HaltRecord where
  first   : FaultCode
  source  : FaultSource
  slot    : Option Nat
  further : Option FaultCode
  deriving DecidableEq, Repr

/-- Job Control's own state (R23): the entry phase is absent in IDLE and HALTED, the halt record is `none` when it is
empty, and `done` marks the units that count as done for the active entry (R28, R31). -/
structure Job where
  state        : JobState
  phase        : Option Phase
  pausePending : Bool
  base         : Int
  halt         : Option HaltRecord
  endReason    : EndReason
  done         : Quad Bool
  deriving DecidableEq, Repr

/-- The source of the design curvature and cant (R43, R49). -/
inductive Mode where
  | design | localMode
  deriving DecidableEq, Repr

/-- What a blocked insertion leads to (R43, R128). -/
inductive BlockedPolicy where
  | halt | goOn
  deriving DecidableEq, Repr

/-- The 21 job parameters (R43), in the order of its table. -/
structure Params where
  mode             : Mode
  grade            : Side
  policy           : BlockedPolicy
  aL               : Nat
  bL               : Nat
  aV               : Nat
  bV               : Nat
  lineMax          : Nat
  liftMax          : Nat
  cantStepMax      : Nat
  liftTolerance    : Nat
  posTolerance     : Nat
  creepDistance    : Nat
  settleTime       : Nat
  overshootLimit   : Nat
  insertionTime    : Nat
  insertionRetries : Nat
  squeezeTime      : Nat
  liftTime         : Nat
  joinHold         : Nat
  grantSlots       : Nat
  deriving DecidableEq, Repr

/-- Every parameter at its default (R43, R44). -/
def Params.default : Params :=
  ⟨.design, .left, .halt, 6000, 14000, 5000, 10000, 800, 600, 150, 10, 15, 300, 250, 2, 1500, 2, 900, 3000, 20000, 3⟩

/-! ## The Correction Engine (chapter 3) -/

/-- The state of the Correction Engine's record (R63, R64). -/
inductive Engine where
  | noRecord
  | working (r : Correction)
  | held (r : Correction)
  | closing (r : Correction)
  deriving DecidableEq, Repr

/-! ## The Design Table (chapter 4) -/

/-- The table states (R70). -/
inductive TableState where
  | empty | loading | valid | invalid
  deriving DecidableEq, Repr

/-- The kinds of a segment (R72). -/
inductive SegmentKind where
  | straight | curve | transition
  deriving DecidableEq, Repr

/-- A segment record as stored (R72). -/
structure Segment where
  index  : Nat
  kind   : SegmentKind
  start  : Int
  length : Int
  k0     : Int
  k1     : Int
  cant0  : Int
  cant1  : Int
  deriving DecidableEq, Repr

/-- The Design Table (R71). The received count and the expected index are both the number of stored segments. -/
structure DesignTable where
  state    : TableState
  /-- The declared count and the declared check, absent in EMPTY. -/
  declared : Option (Nat × Word)
  segments : List Segment
  check    : Word
  deriving DecidableEq, Repr

/-- The table after power-on (R83). -/
def DesignTable.empty : DesignTable := ⟨.empty, none, [], 0⟩

/-! ## Measurement Input and the Residual Trail (chapter 5) -/

/-- The states of a channel (section 5.2). -/
inductive ChannelState where
  | valid | held | lost
  deriving DecidableEq, Repr

/-- One channel: its state, its held count, and its current value, absent until the first good value (R86, R87). -/
structure ChannelRec where
  state : ChannelState
  held  : Nat
  value : Option Int
  deriving DecidableEq, Repr

/-- A channel after power-on and RESTART (R87). -/
def ChannelRec.lostEmpty : ChannelRec := ⟨.lost, 5, none⟩

/-- One record of the Residual Trail (R94). -/
structure TrailRecord where
  position : Int
  line     : Option Int
  level    : Option Int
  deriving DecidableEq, Repr

/-- The Residual Trail, oldest record first, with its append count (R94). -/
structure Trail where
  records : List TrailRecord
  count   : Nat
  deriving DecidableEq, Repr

/-- The Measurement Input: the nine channels and the sample timer (R84, R85). -/
structure Measurement where
  channels : Channels ChannelRec
  timer    : Timer
  deriving DecidableEq, Repr

/-! ## Travel and Positioning (chapter 6) -/

/-- The drive orders (R103). -/
inductive Drive where
  | stop | forwardFast | forwardCreep | reverseCreep
  deriving DecidableEq, Repr

/-- The positioner states (R106). -/
inductive PosState where
  | idle | fast | creep | stopping | inPosition | reversing
  deriving DecidableEq, Repr

/-- Travel and Positioner: the travel counter P, the target T, the positioner state, the reversal count, the settle timer
and the drive order issued last (chapter 6). -/
structure Travel where
  p         : Int
  target    : Option Int
  state     : PosState
  reversals : Nat
  settle    : Timer
  drive     : Drive
  deriving DecidableEq, Repr

/-! ## Tamping units (chapter 7) -/

/-- The states of a unit (R119). -/
inductive UnitState where
  | unhomed | parked | shifting | set | lowering | inserted | squeezing | opening
  | liftingOut | raising | retreating | held | stuck
  deriving DecidableEq, Repr

/-- The orders a unit can have outstanding, with what they carry (section 7.2). -/
inductive UnitOrder where
  | shift (mm : Int) (mask : Nat)
  | lower (mm : Int)
  | squeeze (bar : Int)
  | opens
  | raiseMid
  | raisePark
  deriving DecidableEq, Repr

/-- The record of one tamping unit (R118). -/
structure TUnit where
  state       : UnitState
  waiting     : Bool
  settings    : Option UnitSettings
  workOrdered : Bool
  insertion   : Nat
  retries     : Nat
  order       : Option (UnitOrder × Nat)
  orderNo     : Nat
  timer       : Timer
  tinesClosed : Bool
  retreat     : Bool
  result      : UnitResult
  frozen      : Bool
  deriving DecidableEq, Repr

/-- A unit at power-on, with its park indication (R120). -/
def TUnit.atPowerOn (parkIndication : Bool) : TUnit :=
  { state := if parkIndication then .parked else .unhomed
    waiting := false, settings := none, workOrdered := false, insertion := 1, retries := 0
    order := none, orderNo := 0, timer := none, tinesClosed := false, retreat := false
    result := .empty, frozen := false }

/-! ## Lifting and Lining Unit (chapter 8) -/

/-- The states of the LLU (R143). -/
inductive LluState where
  | unhomed | isOpen | clamping | lifting | atDemand | holding | releasing | settling | held | stuck
  deriving DecidableEq, Repr

/-- The demands of a correction (R62): the hook lift comes with its side, and is absent without HOOK. -/
structure Demands where
  lining : Int
  left   : Int
  right  : Int
  hook   : Option (Int × Side)
  deriving DecidableEq, Repr

/-- The baseline of a lift (R147). -/
structure Baseline where
  m0    : Int
  h0    : Int
  c0    : Int
  hook0 : Option Int
  deriving DecidableEq, Repr

/-- The orders the LLU can have outstanding, with what they carry (section 8.2). -/
inductive LluOrder where
  | clamp (hookSide : Option Side)
  | liftLine (lining left right : Int) (hook : Option Int)
  | unclamp
  deriving DecidableEq, Repr

/-- The record of the LLU (R142). -/
structure Llu where
  state        : LluState
  waiting      : Bool
  demands      : Option Demands
  baseline     : Option Baseline
  achieved     : Option Achieved
  reached      : Bool
  liftShort    : Bool
  lineForce    : Bool
  clampsClosed : Bool
  hookEngaged  : Bool
  retreat      : Bool
  order        : Option (LluOrder × Nat)
  orderNo      : Nat
  timer        : Timer
  joinHold     : Timer
  settle       : Timer
  count        : Nat
  deriving DecidableEq, Repr

/-- The LLU at power-on, with its clamps-open indication (R144). -/
def Llu.atPowerOn (clampsOpen : Bool) : Llu :=
  { state := if clampsOpen then .isOpen else .unhomed
    waiting := false, demands := none, baseline := none, achieved := none, reached := false
    liftShort := false, lineForce := false, clampsClosed := false, hookEngaged := false, retreat := false
    order := none, orderNo := 0, timer := none, joinHold := none, settle := none, count := 0 }

/-! ## Flow Arbiter (chapter 9) -/

/-- The five requesters (R162). -/
inductive Requester where
  | llu
  | unit (u : UnitId)
  deriving DecidableEq, Repr

/-- The Flow Arbiter (R162): the granted set is a list with no repeats, the waiting list is in arrival order. -/
structure Arbiter where
  slots       : Nat
  pendingN    : Option Nat
  granted     : List Requester
  waiting     : List Requester
  pointer     : Option UnitId
  retreatMode : Bool
  stopMark    : Bool
  deriving DecidableEq, Repr

/-- The arbiter at power-on, with the stop line as the Field Side presents it (R162). -/
def Arbiter.atPowerOn (stopLine : Bool) : Arbiter := ⟨3, none, [], [], none, false, stopLine⟩

/-! ## Machine Link (chapter 10) -/

/-- A whole request frame: its kind, its tag and the body after them (R174). -/
structure Frame where
  kind : Word
  tag  : Word
  body : List Byte
  deriving DecidableEq, Repr

/-- The receiver, with the frame under reception (R173, R176): LENGTH and CHECK wait for their first or second byte. -/
inductive Receiver where
  | hunt
  | lengthFirst
  | lengthSecond (low : Byte)
  | body (length : Nat) (got : List Byte)
  | checkFirst (body : List Byte)
  | checkSecond (body : List Byte) (low : Byte)
  deriving DecidableEq, Repr

/-- The reasons of a REFUSED reply (R193), in the order of their codes from 1. -/
inductive Reason where
  | badKind | badLength | wrongState | linkBusy | testRunning | notParked | queueFull | sequence | joinMismatch
  | distance | empty | noTable | tableInUse | tableOrder | tableGap | tableFull | tableKind | retryLimit
  deriving DecidableEq, Repr

/-- The relation mark of a SEQUENCE refusal (R9). -/
inductive Relation where
  | equal | greater
  deriving DecidableEq, Repr

/-- What CLOSE TABLE found (R78). -/
inductive CloseOutcome where
  | valid | count | check
  deriving DecidableEq, Repr

/-- The outcome of a self-test (R188). -/
inductive TestOutcome where
  | pass | fail
  deriving DecidableEq, Repr

/-- The self-test failure codes (R188), in the order of their codes from 1. -/
inductive TestFailure where
  | readback | noReadback | noSample | memory | stopLine
  deriving DecidableEq, Repr

/-- The first-failure record (R188). -/
structure FailureRecord where
  group    : Nat
  item     : Nat
  code     : TestFailure
  read     : Nat
  expected : Nat
  deriving DecidableEq, Repr

/-- What a JOB STATE report carries (R25, R183). -/
structure JobStatus where
  state        : JobState
  phase        : Option Phase
  endReason    : EndReason
  halt         : Option HaltRecord
  pausePending : Bool
  activeSlot   : Option Nat
  deriving DecidableEq, Repr

/-- The three reports (R183). -/
inductive Report where
  | jobState (job : JobStatus)
  | entryFinished (slot number : Nat) (final : SlotState)
  | testDone (outcome : TestOutcome) (group item passed : Nat) (failure : Option FailureRecord)
  deriving DecidableEq, Repr

/-- What a READ STATUS reply carries (R184, R197). -/
structure StatusReport where
  job           : JobStatus
  p             : Int
  target        : Option Int
  pos           : PosState
  drive         : Drive
  reversals     : Nat
  units         : Quad (UnitState × Bool)
  lluState      : LluState
  lluWaiting    : Bool
  lluRetreat    : Bool
  gateOpen      : Bool
  table         : TableState
  granted       : List Requester
  waiting       : List Requester
  slots         : Nat
  retreatMode   : Bool
  stopLine      : Bool
  /-- The group and item under test while a self-test runs. -/
  test          : Option (Nat × Nat)
  framesWaiting : Nat
  reports       : Nat
  lost          : Bool
  dropped       : Nat
  deriving DecidableEq, Repr

/-- What a READ QUEUE reply carries (R20): the counts in the order of `SlotState`, and the reference of the next load. -/
structure QueueReport where
  counts     : List Nat
  oldest     : Option Nat
  active     : Option Nat
  tail       : Nat
  lastNumber : Option Nat
  /-- JOINED_NEXT and the chain position of the newest occupied slot. -/
  newest     : Option (Bool × Nat)
  deriving DecidableEq, Repr

/-- What a READ TABLE reply carries (R79). -/
structure TableReport where
  state    : TableState
  declared : Option (Nat × Word)
  received : Nat
  expected : Nat
  check    : Word
  segment  : Option Segment
  deriving DecidableEq, Repr

/-- What an IDENTIFY reply carries (R192). -/
structure Identity where
  vendor   : Word
  name     : List Byte
  revision : Byte
  slots    : Nat
  segments : Nat
  trail    : Nat
  units    : Nat
  chain    : Nat
  deriving DecidableEq, Repr

/-- The status and fields of a reply (R181, R195 to R198). -/
inductive Answer where
  | refused (reason : Reason) (kind : Word) (detail : Nat) (relation : Option Relation)
  /-- ACCEPTED with no field. -/
  | accepted
  | identity (i : Identity)
  | status (r : StatusReport)
  /-- SET PARAMETERS: the rows clamped, counted from 0. -/
  | parametersSet (clamped : List Nat)
  | parameters (values : List Nat)
  /-- LOAD ENTRY: the slot, the chain position and the codes of the fields clamped (R8, R195). -/
  | loaded (slot chainPos : Nat) (clamped : List Nat)
  | collected (results : List Result) (more : Bool)
  | queue (r : QueueReport)
  | cleared (occupied : Nat)
  | started (slot : Nat)
  | paused (phase : Option Phase)
  | tableOpened (count : Nat)
  | segmentStored (next : Nat) (check : Word)
  | tableClosed (outcome : CloseOutcome) (received : Nat) (check : Word)
  | table (r : TableReport)
  | measurement (channels : Channels ChannelRec) (p : Int)
  | trail (held count : Nat) (records : List TrailRecord)
  | testStarted (items : Nat)
  deriving DecidableEq, Repr

/-- A reply in the reply list; `busy` marks a LINK_BUSY refusal formed at the input buffer (R173, R178). -/
structure Reply where
  busy   : Bool
  kind   : Word
  tag    : Word
  answer : Answer
  deriving DecidableEq, Repr

/-- The frame being sent (R182): whether it is the oldest reply of the reply list, and its bytes from start byte to check. -/
structure LineFrame where
  isReply : Bool
  bytes   : List Byte
  deriving DecidableEq, Repr

/-- The Machine Link (R173), with the frame on the line (R182). -/
structure Link where
  receiver       : Receiver
  byteTimer      : Timer
  input          : List Frame
  replies        : List Reply
  reports        : List Report
  lost           : Bool
  dropped        : Nat
  restartPending : Bool
  line           : Option LineFrame
  deriving DecidableEq, Repr

/-! ## Self-Test (chapter 11) -/

/-- The Self-Test: the running flag, the group and item requested, the item under test, the items of the run still to come,
the items passed, the item timer, the counted read-back of a valve item, the mark that a sensor item has seen a good value,
and the first-failure record. -/
structure SelfTest where
  running   : Bool
  requested : Nat × Nat
  item      : Nat × Nat
  rest      : List (Nat × Nat)
  passed    : Nat
  timer     : Timer
  readback  : Option Nat
  seenGood  : Bool
  failure   : Option FailureRecord
  deriving DecidableEq, Repr

/-- The Self-Test after power-on (R187; what the rule does not name is DESIGN CHOICE, log entry 29). -/
def SelfTest.idle : SelfTest := ⟨false, (0, 0), (0, 0), [], 0, none, none, false, none⟩

/-! ## Field Side -/

/-- One order to the Field Side: the motion orders of the units and of the LLU with their numbers, their CANCELs, the drive
orders, and the valve orders of a self-test (sections 7.2 and 8.2, R103, R189). -/
inductive FieldOrder where
  | unit (u : UnitId) (order : UnitOrder) (number : Nat)
  | unitCancel (u : UnitId) (number : Nat)
  | llu (order : LluOrder) (number : Nat)
  | lluCancel (number : Nat)
  | drive (d : Drive)
  | valveTest (v : Valve) (permille : Nat)
  /-- The valve named is the one under test; R189 does not say what VALVE_REST carries (DESIGN CHOICE, unsafe, log entry 32). -/
  | valveRest (v : Valve)
  deriving DecidableEq, Repr

/-- The Field Side as the TL-440 knows it: the stop line, and the orders issued so far, oldest first (DESIGN CHOICE, safe, log
entry 11). -/
structure FieldSide where
  stopLine : Bool
  sent     : List FieldOrder
  deriving DecidableEq, Repr

/-! ## Stops -/

/-- The faults. No command of the TL-440 stops the block: the type has no constructor, so no meaning can answer one. -/
inductive Fault where
  deriving DecidableEq, Repr

/-- The refusals. -/
inductive Refusal where
  /-- Raised by an arm of `exec` whose command has no meaning yet; no arm is such a one. Safe: the model stops. -/
  | notModelled (mnemonic : String)
  deriving DecidableEq, Repr

/-- The state of the TL-440, one field for each block, and the commands waiting, oldest first. -/
structure State where
  link    : Link
  queue   : WorkQueue
  job     : Job
  params  : Params
  engine  : Engine
  table   : DesignTable
  meas    : Measurement
  trail   : Trail
  travel  : Travel
  units   : Quad TUnit
  llu     : Llu
  arb     : Arbiter
  test    : SelfTest
  field   : FieldSide
  pending : List Instr
  deriving DecidableEq, Repr

/-- Job Control after power-on (R23). -/
def Job.atPowerOn : Job := ⟨.idle, none, false, 0, none, .powerOn, ⟨false, false, false, false⟩⟩

/-- The nine channels after power-on and RESTART (R87). -/
def Measurement.initial : Measurement :=
  { channels := ⟨.lostEmpty, .lostEmpty, .lostEmpty, .lostEmpty, .lostEmpty,
      ⟨.lostEmpty, .lostEmpty, .lostEmpty, .lostEmpty⟩⟩
    timer := some 20 }

/-- The Positioner after power-on and RESTART (R117). -/
def Travel.initial : Travel := ⟨0, none, .idle, 0, none, .stop⟩

/-- The link after power-on (R173). Its JOB STATE report (IDLE, end reason POWER_ON, no halt record) has left the queue,
because the line was free, and is being sent (R182). -/
def Link.atPowerOn : Link :=
  { receiver := .hunt, byteTimer := none, input := [], replies := [], reports := [], lost := false, dropped := 0
    restartPending := false
    line := some ⟨false, [0xC3, 14, 0, 0x60, 0, 0, 0, 0, 0, 0xFF, 4, 0, 0xFF, 0xFF, 0, 0, 0xFF, 0x9F, 0xFB]⟩ }

/-- The TL-440 right after power-on, with every park indication and the clamps-open indication present and the stop line
released (DESIGN CHOICE, unsafe, log entry 2). -/
def State.reset : State :=
  { link := .atPowerOn
    queue := ⟨0, []⟩
    job := .atPowerOn
    params := .default
    engine := .noRecord
    table := .empty
    meas := .initial
    trail := ⟨[], 0⟩
    travel := .initial
    units := ⟨.atPowerOn true, .atPowerOn true, .atPowerOn true, .atPowerOn true⟩
    llu := .atPowerOn true
    arb := .atPowerOn false
    test := .idle
    field := ⟨false, []⟩
    pending := [] }

end Sys2Proof.Machine
end

