-- ==== Sys2Proof/Machine/Bits.lean ====
section
/-! DEFINITION. Bytes and words of the Machine Link, the ones'-complement sum, the rounded division and the clamping that
every block shares, and access to a value by unit or by channel. -/

namespace Sys2Proof

/-- The value for one unit. -/
def Quad.get (q : Quad α) : UnitId → α
  | .lo => q.lo
  | .li => q.li
  | .ri => q.ri
  | .ro => q.ro

/-- `q` with the value of one unit replaced. -/
def Quad.set (q : Quad α) (u : UnitId) (x : α) : Quad α :=
  match u with
  | .lo => { q with lo := x }
  | .li => { q with li := x }
  | .ri => { q with ri := x }
  | .ro => { q with ro := x }

/-- `f` applied to the value of each unit. -/
def Quad.map (f : α → β) (q : Quad α) : Quad β := ⟨f q.lo, f q.li, f q.ri, f q.ro⟩

/-- The four values in the order LO, LI, RI, RO. -/
def Quad.toList (q : Quad α) : List α := [q.lo, q.li, q.ri, q.ro]

/-- The test `p` holds of all four values. -/
def Quad.all (q : Quad α) (p : α → Bool) : Bool := p q.lo && p q.li && p q.ri && p q.ro

/-- The test `p` holds of one of the four values. -/
def Quad.any (q : Quad α) (p : α → Bool) : Bool := p q.lo || p q.li || p q.ri || p q.ro

/-- The units in the order LO, LI, RI, RO. -/
def UnitId.all : List UnitId := [.lo, .li, .ri, .ro]

/-- The value for one channel. -/
def Channels.get (c : Channels α) : Channel → α
  | .line => c.line
  | .levelL => c.levelL
  | .levelR => c.levelR
  | .cant => c.cant
  | .hook => c.hook
  | .press u => c.press.get u

/-- The nine values in the order of the table of R84. -/
def Channels.toList (c : Channels α) : List α := [c.line, c.levelL, c.levelR, c.cant, c.hook] ++ c.press.toList

/-- The nine channels in the order of the table of R84. -/
def Channel.all : List Channel :=
  [.line, .levelL, .levelR, .cant, .hook, .press .lo, .press .li, .press .ri, .press .ro]

namespace Machine

/-! ## Bytes and words -/

/-- The low byte of a word. -/
def lowByte (w : Word) : Byte := BitVec.ofNat 8 w.toNat

/-- The high byte of a word. -/
def highByte (w : Word) : Byte := BitVec.ofNat 8 (w.toNat / 256)

/-- The word of a low and a high byte (R193). -/
def wordOf (low high : Byte) : Word := BitVec.ofNat 16 (low.toNat + 256 * high.toNat)

/-- A word sent low byte first (R193). -/
def bytes16 (w : Word) : List Byte := [lowByte w, highByte w]

/-- An unsigned 8-bit field. -/
def nat8 (n : Nat) : List Byte := [BitVec.ofNat 8 n]

/-- An unsigned 16-bit field (R193). -/
def nat16 (n : Nat) : List Byte := bytes16 (BitVec.ofNat 16 n)

/-- A signed 16-bit field in two's complement (R193). -/
def int16 (x : Int) : List Byte := bytes16 (BitVec.ofInt 16 x)

/-- An unsigned 32-bit field (R193). -/
def nat32 (n : Nat) : List Byte := nat16 n ++ nat16 (n / 65536)

/-- A signed 32-bit field in two's complement (R193). -/
def int32 (x : Int) : List Byte := nat32 (BitVec.ofInt 32 x).toNat

/-- A byte whose lowest bits are the marks given, bit 0 first (R193). -/
def marks : List Bool → Nat
  | [] => 0
  | b :: bs => (if b then 1 else 0) + 2 * marks bs

/-- Byte `i` of a request body, counted from the kind, given the bytes after kind and tag (section 12.2). -/
def byteAt (body : List Byte) (i : Nat) : Nat := (body.getD (i - 4) 0).toNat

/-- The unsigned 16-bit field at offset `i` of a request body. -/
def natAt (body : List Byte) (i : Nat) : Nat := byteAt body i + 256 * byteAt body (i + 1)

/-- The signed 16-bit field at offset `i` of a request body. -/
def intAt (body : List Byte) (i : Nat) : Int := (BitVec.ofNat 16 (natAt body i)).toInt

/-- The unsigned 32-bit field at offset `i` of a request body. -/
def nat32At (body : List Byte) (i : Nat) : Nat := natAt body i + 65536 * natAt body (i + 2)

/-- The signed 32-bit field at offset `i` of a request body. -/
def int32At (body : List Byte) (i : Nat) : Int := (BitVec.ofNat 32 (nat32At body i)).toInt

/-! ## The ones'-complement sum -/

/-- One ones'-complement addition: a carry out of the sixteenth bit is added into the lowest (R77, R175). -/
def onesAdd (a b : Word) : Word :=
  BitVec.ofNat 16 ((a.toNat + b.toNat) % 65536 + (a.toNat + b.toNat) / 65536)

/-- Bytes taken as words, low byte first; an odd last byte has a high byte of zero (R175). -/
def wordsOf : List Byte → List Word
  | [] => []
  | [a] => [wordOf a 0]
  | a :: b :: rest => wordOf a b :: wordsOf rest

/-- The words of `bytes` added one by one to `start` (R77, R175). -/
def onesSum (start : Word) (bytes : List Byte) : Word := (wordsOf bytes).foldl onesAdd start

/-- The check of a frame body: the ones'-complement of its sum (R175). -/
def checkOf (body : List Byte) : Word := ~~~ (onesSum 0 body)

/-- The frame of a body: start byte, length, body and check (R174). -/
def frameOf (body : List Byte) : List Byte :=
  [0xC3] ++ nat16 body.length ++ body ++ bytes16 (checkOf body)

/-! ## Numbers -/

/-- `a / b` rounded to the nearest integer, halves away from zero, for a positive `b` (R45). -/
def divRound (a b : Int) : Int :=
  if a < 0 then -((2 * -a + b) / (2 * b)) else (2 * a + b) / (2 * b)

/-- `x` brought to the nearer bound of `lo` to `hi`. -/
def clamp (lo hi x : Int) : Int := if x < lo then lo else if hi < x then hi else x

/-- `x` limited to the magnitude `bound`, keeping its sign (R54, R56). -/
def limit (bound x : Int) : Int := clamp (-bound) bound x

/-- `x` lies outside the magnitude `bound` (R54, R56). -/
def exceeds (bound x : Int) : Bool := decide (x < -bound) || decide (bound < x)

/-- The next order number: 255 is followed by 0 (R118, R142). -/
def nextNumber (n : Nat) : Nat := (n + 1) % 256

end Machine
end Sys2Proof
end

