-- ==== Sys2Proof/Machine/Arbiter.lean ====
section
/-! DEFINITION. The Flow Arbiter (chapter 9): requests, the choice, grants, releases, withdrawals, the slot count, the stop
line and RESTART, each as a function of the arbiter's own record. -/

namespace Sys2Proof.Machine

/-- The cycle LO, LI, RI, RO from the unit after the pointer, and from LO when the pointer is none (R164). -/
def cycleAfter : Option UnitId → List UnitId
  | none => [.lo, .li, .ri, .ro]
  | some .lo => [.li, .ri, .ro, .lo]
  | some .li => [.ri, .ro, .lo, .li]
  | some .ri => [.ro, .lo, .li, .ri]
  | some .ro => [.lo, .li, .ri, .ro]

/-- The first waiting unit of the cycle (R164). -/
def Arbiter.nextUnit (a : Arbiter) : Option UnitId :=
  (cycleAfter a.pointer).find? fun u => a.waiting.contains (.unit u)

/-- The requester chosen next: the LLU first in normal work (R164), the units first in a retreat (R165). -/
def Arbiter.choice (a : Arbiter) : Option Requester :=
  let llu := if a.waiting.contains .llu then some Requester.llu else none
  let unit := a.nextUnit.map Requester.unit
  if a.retreatMode then unit.or llu else llu.or unit

/-- The four conditions under which the arbiter grants (R166). -/
def Arbiter.canGrant (a : Arbiter) : Bool :=
  !a.stopMark && a.pendingN.isNone && decide (a.granted.length < a.slots) && !a.waiting.isEmpty

/-- One grant: the chosen requester passes from the waiting list to the granted set, and a chosen unit becomes the pointer
(R164, R166). -/
def Arbiter.grantTo (a : Arbiter) (r : Requester) : Arbiter :=
  { a with
    waiting := a.waiting.erase r
    granted := a.granted ++ [r]
    pointer := match r with
      | .llu => a.pointer
      | .unit u => some u }

/-- Grants while the four conditions hold (R166), at most `n` times. -/
def Arbiter.grantLoop : Nat → Arbiter → Arbiter
  | 0, a => a
  | n + 1, a =>
    if a.canGrant then
      match a.choice with
      | some r => Arbiter.grantLoop n (a.grantTo r)
      | none => a
    else a

/-- Grants while the four conditions hold: each grant takes one requester off the waiting list (R166). -/
def Arbiter.grant (a : Arbiter) : Arbiter := Arbiter.grantLoop a.waiting.length a

/-- The requester is granted or waiting (R163). -/
def Arbiter.knows (a : Arbiter) (r : Requester) : Bool := a.granted.contains r || a.waiting.contains r

/-- A request is taken (R163). -/
def Arbiter.request (r : Requester) (a : Arbiter) : Arbiter :=
  if a.knows r then a else Arbiter.grant { a with waiting := a.waiting ++ [r] }

/-- A pending count at or above the grants held comes into force (R169). -/
def Arbiter.takePending (a : Arbiter) : Arbiter :=
  match a.pendingN with
  | some n => if a.granted.length ≤ n then { a with slots := n, pendingN := none } else a
  | none => a

/-- A grant is removed, a pending count is compared, and the arbiter grants (R167, R169). -/
def Arbiter.dropGrant (r : Requester) (a : Arbiter) : Arbiter :=
  (Arbiter.takePending { a with granted := a.granted.erase r }).grant

/-- A release is taken; one from a requester that holds no grant is ignored (R167). -/
def Arbiter.release (r : Requester) (a : Arbiter) : Arbiter :=
  if a.granted.contains r then a.dropGrant r else a

/-- A withdrawal is taken: off the waiting list, or, when the grant has crossed it, as a release (R168). -/
def Arbiter.withdraw (r : Requester) (a : Arbiter) : Arbiter :=
  if a.waiting.contains r then { a with waiting := a.waiting.erase r } else a.release r

/-- The slot count that SET PARAMETERS hands over (R169; DEDUCED, unsafe, log entry 25). -/
def Arbiter.setSlots (n : Nat) (a : Arbiter) : Arbiter :=
  if a.granted.length ≤ n then Arbiter.grant { a with slots := n, pendingN := none } else { a with pendingN := some n }

/-- The assertion of the stop line (R170). -/
def Arbiter.stop (a : Arbiter) : Arbiter :=
  { a with stopMark := true, granted := [], waiting := [], slots := a.pendingN.getD a.slots, pendingN := none }

/-- The release of the stop line (R170). -/
def Arbiter.stopReleased (a : Arbiter) : Arbiter := Arbiter.grant { a with stopMark := false }

/-- RESTART: the sets are emptied, the pointer and the retreat mode cleared, and N becomes the stored count (R162). -/
def Arbiter.restarted (stored : Nat) (a : Arbiter) : Arbiter :=
  { a with slots := stored, pendingN := none, granted := [], waiting := [], pointer := none, retreatMode := false }

end Sys2Proof.Machine
end

