-- ==== Sys2Proof/Machine/Measure.lean ====
section
/-! DEFINITION. The Measurement Input (chapter 5): the ranges and states of the channels, what a sample does to them, and the
Residual Trail with its append and its questions. -/

namespace Sys2Proof.Machine

/-! ## Channels -/

/-- The range of a channel's value (R84). -/
def channelRange : Channel → Int × Int
  | .line => (-30000, 30000)
  | .levelL | .levelR => (-15000, 15000)
  | .cant => (-2500, 2500)
  | .hook => (0, 15000)
  | .press _ => (0, 300)

/-- A channel's value is good in a sample: its valid mark is set and it lies in the channel's range (R84). -/
def goodReading (c : Channel) (r : Reading) : Bool :=
  r.valid && decide ((channelRange c).1 ≤ r.value) && decide (r.value ≤ (channelRange c).2)

/-- A missed sample: all nine channels are bad (R85). -/
def missedSample : Channels Reading :=
  let bad : Reading := ⟨0, false⟩
  ⟨bad, bad, bad, bad, bad, ⟨bad, bad, bad, bad⟩⟩

/-- What one sample does to a channel (R86). -/
def ChannelRec.take (x : ChannelRec) (c : Channel) (r : Reading) : ChannelRec :=
  if goodReading c r then ⟨.valid, 0, some r.value⟩
  else
    match x.state with
    | .valid => { x with state := .held, held := 1 }
    | .held => if x.held < 5 then { x with held := x.held + 1 } else { x with state := .lost }
    | .lost => x

/-- The nine channels after a sample (R84, R86). -/
def takeSample (cs : Channels ChannelRec) (s : Channels Reading) : Channels ChannelRec :=
  { line := cs.line.take .line s.line
    levelL := cs.levelL.take .levelL s.levelL
    levelR := cs.levelR.take .levelR s.levelR
    cant := cs.cant.take .cant s.cant
    hook := cs.hook.take .hook s.hook
    press := ⟨cs.press.lo.take (.press .lo) s.press.lo, cs.press.li.take (.press .li) s.press.li,
      cs.press.ri.take (.press .ri) s.press.ri, cs.press.ro.take (.press .ro) s.press.ro⟩ }

/-- A channel is LOST: it has no value a consumer may use (R87). -/
def ChannelRec.isLost (x : ChannelRec) : Bool := x.state == .lost

/-- The value a consumer reads from a channel that is VALID or HELD (R87). -/
def ChannelRec.current (x : ChannelRec) : Int := x.value.getD 0

/-- The sample made the channel LOST: it was not LOST before it and is LOST after it (R88). -/
def newlyLost (before after : Channels ChannelRec) (c : Channel) : Bool :=
  !(before.get c).isLost && (after.get c).isLost

/-- The level channel of a grade rail (R47). -/
def levelChannel : Side → Channel
  | .left => .levelL
  | .right => .levelR

/-! ## The Residual Trail -/

/-- The capacity of the trail (R94). -/
def trailCapacity : Nat := 32

/-- The append of one record (R95). -/
def Trail.append (t : Trail) (r : TrailRecord) : Trail :=
  let kept := t.records.filter (fun x => decide (x.position < r.position)) ++ [r]
  { records := if trailCapacity < kept.length then kept.drop 1 else kept
    count := (t.count + 1) % 65536 }

/-- The answer between two adjacent records: only the increment is rounded (R97, case 5). -/
def trailBetween (p1 v1 p2 v2 x : Int) : Int := v1 + divRound ((v2 - v1) * (x - p1)) (p2 - p1)

/-- The answer at `x`, at or above the position of the record `a`, with the records after it following (R97, cases 3 to 5). -/
def trailFrom (field : TrailRecord → Option Int) (a : TrailRecord) : List TrailRecord → Int → Int
  | [], _ => (field a).getD 0
  | b :: rest, x =>
    if x = a.position then (field a).getD 0
    else if x < b.position then trailBetween a.position ((field a).getD 0) b.position ((field b).getD 0) x
    else trailFrom field b rest x

/-- The trail's answer for one residual at `x`; an absent residual counts as 0 (R97). -/
def Trail.question (t : Trail) (field : TrailRecord → Option Int) (x : Int) : Int :=
  if x < 0 then 0
  else
    match t.records with
    | [] => 0
    | a :: rest => if x < a.position then (field a).getD 0 else trailFrom field a rest x

/-- The records a READ TRAIL reply carries, from a first record number on (R98). -/
def Trail.page (t : Trail) (first : Nat) : List TrailRecord := (t.records.drop first).take 16

end Sys2Proof.Machine
end

