-- ==== Sys2Proof/Machine/Layout.lean ====
section
/-! DEFINITION. The byte layouts of what the TL-440 sends (chapter 12): the codes of states and reasons (R193), the result
record (R196), READ STATUS and the reports (R197), and the other replies (R198). -/

namespace Sys2Proof.Machine

/-! ## Codes (R193) -/

/-- The place of a unit in the list LO, LI, RI, RO. -/
def unitCode : UnitId → Nat
  | .lo => 0
  | .li => 1
  | .ri => 2
  | .ro => 3

def jobCode : JobState → Nat
  | .idle => 0
  | .running => 1
  | .paused => 2
  | .halted => 3

/-- The entry phase; an absent one is sent as 0xFF. -/
def phaseCode : Option Phase → Nat
  | some .positioning => 0
  | some .working => 1
  | some .releasing => 2
  | some .holding => 3
  | some .starved => 4
  | none => 255

def endCode : EndReason → Nat
  | .none => 0
  | .completed => 1
  | .aborted => 2
  | .restart => 3
  | .powerOn => 4

def unitStateCode : UnitState → Nat
  | .unhomed => 0
  | .parked => 1
  | .shifting => 2
  | .set => 3
  | .lowering => 4
  | .inserted => 5
  | .squeezing => 6
  | .opening => 7
  | .liftingOut => 8
  | .raising => 9
  | .retreating => 10
  | .held => 11
  | .stuck => 12

def lluStateCode : LluState → Nat
  | .unhomed => 0
  | .isOpen => 1
  | .clamping => 2
  | .lifting => 3
  | .atDemand => 4
  | .holding => 5
  | .releasing => 6
  | .settling => 7
  | .held => 8
  | .stuck => 9

def posCode : PosState → Nat
  | .idle => 0
  | .fast => 1
  | .creep => 2
  | .stopping => 3
  | .inPosition => 4
  | .reversing => 5

def driveCode : Drive → Nat
  | .stop => 0
  | .forwardFast => 1
  | .forwardCreep => 2
  | .reverseCreep => 3

def tableCode : TableState → Nat
  | .empty => 0
  | .loading => 1
  | .valid => 2
  | .invalid => 3

def channelCode : ChannelState → Nat
  | .valid => 0
  | .held => 1
  | .lost => 2

def slotCode : SlotState → Nat
  | .free => 0
  | .ready => 1
  | .active => 2
  | .faulted => 3
  | .done => 4
  | .partDone => 5
  | .skipped => 6
  | .aborted => 7

def closeCode : CloseOutcome → Nat
  | .valid => 0
  | .count => 1
  | .check => 2

def kindCode : SegmentKind → Nat
  | .straight => 0
  | .curve => 1
  | .transition => 2

def outcomeCode : TestOutcome → Nat
  | .pass => 0
  | .fail => 1

/-- The fault codes count from 1, and an absent one is sent as 0. -/
def faultCode : Option FaultCode → Nat
  | none => 0
  | some .unitBlocked => 1
  | some .unitStuck => 2
  | some .clampFailed => 3
  | some .sensorLost => 4
  | some .offTable => 5
  | some .positionFailed => 6
  | some .movedWhileWorking => 7
  | some .travelLimit => 8
  | some .stopLine => 9

def sourceCode : FaultSource → Nat
  | .unit u => unitCode u
  | .llu => 4
  | .travel => 5
  | .computation => 6
  | .stopLine => 7

def failureCode : TestFailure → Nat
  | .readback => 1
  | .noReadback => 2
  | .noSample => 3
  | .memory => 4
  | .stopLine => 5

def reasonCode : Reason → Nat
  | .badKind => 1
  | .badLength => 2
  | .wrongState => 3
  | .linkBusy => 4
  | .testRunning => 5
  | .notParked => 6
  | .queueFull => 7
  | .sequence => 8
  | .joinMismatch => 9
  | .distance => 10
  | .empty => 11
  | .noTable => 12
  | .tableInUse => 13
  | .tableOrder => 14
  | .tableGap => 15
  | .tableFull => 16
  | .tableKind => 17
  | .retryLimit => 18

def relationCode : Relation → Nat
  | .equal => 0
  | .greater => 1

/-- A requester's code in the waiting list (R197). -/
def requesterCode : Requester → Nat
  | .llu => 0
  | .unit u => unitCode u + 1

/-- A one-byte slot or code field, sent as 0xFF when it is absent (R193). -/
def slotByte (n : Option Nat) : List Byte := nat8 (n.getD 255)

def markByte (b : Bool) : List Byte := nat8 (marks [b])

/-! ## Records -/

/-- The 18 bytes of a segment record (R194). -/
def segmentBytes (g : Segment) : List Byte :=
  nat8 g.index ++ nat8 (kindCode g.kind) ++ int32 g.start ++ int32 g.length ++ int16 g.k0 ++ int16 g.k1
    ++ int16 g.cant0 ++ int16 g.cant1

/-- One unit's byte of a result record (R196). -/
def unitResultByte (r : UnitResult) : List Byte :=
  nat8 (marks [r.used] + 2 * (r.completed % 4) + 8 * marks [r.blocked, r.squeezeLow, r.pressureUnknown])

/-- The final state at bits 6 and 7 of a result's presence byte (R196). -/
def finalCode : SlotState → Nat
  | .done => 0
  | .partDone => 1
  | .skipped => 2
  | .aborted => 3
  | .free | .ready | .active | .faulted => 0

def CorrFlags.byte (f : CorrFlags) : Nat :=
  marks [f.lineClamped, f.liftClamped, f.trackHigh, f.cantLimited, f.sensorHeld, f.joinBroken, f.reused]

/-- The 36 bytes of a result record (R196); what is absent is sent as 0 with its presence mark clear (R193). -/
def resultBytes (r : Result) : List Byte :=
  let hook := r.correction.bind (·.hookLift)
  let achievedHook := r.achieved.bind (·.values.hook)
  nat16 r.number
    ++ nat8 (r.slot % 64 + 64 * (r.retries % 4))
    ++ nat8 (marks [r.correction.isSome, hook.isSome, r.achieved.isSome, achievedHook.isSome, r.residual.isSome]
        + 64 * finalCode r.final)
    ++ nat8 ((r.correction.map (·.flags.byte)).getD 0)
    ++ nat8 (marks [(r.achieved.map (·.liftShort)).getD false, (r.achieved.map (·.lineForce)).getD false,
          r.residualMissing] + 16 * faultCode r.fault)
    ++ int32 (r.c.getD 0)
    ++ int16 ((r.correction.map (·.s)).getD 0) ++ int16 ((r.correction.map (·.uL)).getD 0)
    ++ int16 ((r.correction.map (·.uR)).getD 0) ++ int16 (hook.getD 0)
    ++ int16 ((r.achieved.map (·.values.line)).getD 0) ++ int16 ((r.achieved.map (·.values.left)).getD 0)
    ++ int16 ((r.achieved.map (·.values.right)).getD 0) ++ int16 (achievedHook.getD 0)
    ++ int16 ((r.residual.map (·.1)).getD 0) ++ int16 ((r.residual.map (·.2)).getD 0)
    ++ unitResultByte r.units.lo ++ unitResultByte r.units.li ++ unitResultByte r.units.ri ++ unitResultByte r.units.ro
    ++ nat16 (r.units.lo.retriesUsed % 16 + 16 * (r.units.li.retriesUsed % 16)
        + 256 * (r.units.ri.retriesUsed % 16) + 4096 * (r.units.ro.retriesUsed % 16))

/-- The four bytes of a halt record; an empty one has its first fault at 0 and its source and slot at 0xFF (R197). -/
def haltBytes : Option HaltRecord → List Byte
  | none => nat8 0 ++ nat8 255 ++ nat8 255 ++ nat8 0
  | some h => nat8 (faultCode (some h.first)) ++ nat8 (sourceCode h.source) ++ slotByte h.slot ++ nat8 (faultCode h.further)

/-- Job state, phase, end reason, halt record, pause pending and active slot, as READ STATUS and JOB STATE send them (R197). -/
def jobStatusBytes (j : JobStatus) : List Byte :=
  nat8 (jobCode j.state) ++ nat8 (phaseCode j.phase) ++ nat8 (endCode j.endReason) ++ haltBytes j.halt
    ++ markByte j.pausePending ++ slotByte j.activeSlot

/-- A set of requesters: the LLU at bit 0, LO, LI, RI, RO at bits 1 to 4 (R193). -/
def requesterSet (g : List Requester) : Nat :=
  marks [g.contains .llu, g.contains (.unit .lo), g.contains (.unit .li), g.contains (.unit .ri), g.contains (.unit .ro)]

/-- The waiting list in five bytes, 0xFF after the last requester (R197). -/
def waitingBytes (w : List Requester) : List Byte :=
  ((w.map requesterCode ++ [255, 255, 255, 255, 255]).take 5).flatMap nat8

/-- One unit's byte of READ STATUS (R197). -/
def unitStatusByte (x : UnitState × Bool) : List Byte := nat8 (unitStateCode x.1 + 128 * marks [x.2])

/-- The fields of a READ STATUS reply from offset 5 (R197). R193 gives no code for the squeeze gate, the stop line and test running,
and calls none of them a mark: 1 stands for open, asserted and running (DESIGN CHOICE, unsafe, log entry 33). -/
def statusBytes (r : StatusReport) : List Byte :=
  jobStatusBytes r.job
    ++ int32 r.p ++ int32 (r.target.getD (-1))
    ++ nat8 (posCode r.pos) ++ nat8 (driveCode r.drive) ++ nat8 r.reversals
    ++ unitStatusByte r.units.lo ++ unitStatusByte r.units.li ++ unitStatusByte r.units.ri ++ unitStatusByte r.units.ro
    ++ nat8 (lluStateCode r.lluState + 64 * marks [r.lluRetreat, r.lluWaiting])
    ++ markByte r.gateOpen ++ nat8 (tableCode r.table)
    ++ nat8 (requesterSet r.granted) ++ waitingBytes r.waiting
    ++ nat8 r.slots ++ markByte r.retreatMode ++ markByte r.stopLine
    ++ markByte r.test.isSome ++ nat8 ((r.test.map (·.1)).getD 0) ++ nat8 ((r.test.map (·.2)).getD 0)
    ++ nat8 r.framesWaiting ++ nat8 r.reports ++ markByte r.lost ++ nat8 r.dropped

/-- The fields of a READ QUEUE reply (R198). -/
def queueBytes (r : QueueReport) : List Byte :=
  r.counts.flatMap nat8 ++ slotByte r.oldest ++ slotByte r.active ++ nat8 r.tail
    ++ nat8 (marks [r.newest.isSome, (r.newest.map (·.1)).getD false])
    ++ nat16 (r.lastNumber.getD 0) ++ nat8 ((r.newest.map (·.2)).getD 0)

/-- The fields of a READ TABLE reply (R198). With no segment stored at the index all 18 bytes of the record are 0, the kind code
among them: R193 sends an absent field of a record with a presence byte as 0, and an absent one-byte code as 0xFF, and the kind code
is both (DESIGN CHOICE, unsafe, log entry 36). -/
def tableBytes (r : TableReport) : List Byte :=
  nat8 (tableCode r.state) ++ nat8 (marks [r.declared.isSome, r.segment.isSome])
    ++ nat8 ((r.declared.map (·.1)).getD 0) ++ bytes16 ((r.declared.map (·.2)).getD 0)
    ++ nat8 r.received ++ nat8 r.expected ++ bytes16 r.check
    ++ (match r.segment with
        | some g => segmentBytes g
        | none => List.replicate 18 0)

/-- The fields of a READ MEASUREMENT reply (R198). -/
def measurementBytes (c : Channels ChannelRec) (p : Int) : List Byte :=
  nat16 (marks (c.toList.map (·.value.isSome)))
    ++ c.toList.flatMap (fun x => nat8 (channelCode x.state) ++ nat8 x.held ++ int16 (x.value.getD 0))
    ++ int32 p

/-- One record of a READ TRAIL reply (R198). -/
def trailRecordBytes (t : TrailRecord) : List Byte :=
  int32 t.position ++ nat8 (marks [t.line.isSome, t.level.isSome]) ++ int16 (t.line.getD 0) ++ int16 (t.level.getD 0)

/-- The 4-byte mask with a bit set for each row of the list (R195). -/
def rowMask (rows : List Nat) : Nat := marks ((List.range 32).map fun i => rows.contains i)

/-- The fields of an IDENTIFY reply (R198). -/
def identityBytes (i : Identity) : List Byte :=
  bytes16 i.vendor ++ i.name ++ [i.revision] ++ nat8 i.slots ++ nat8 i.segments ++ nat8 i.trail ++ nat8 i.units
    ++ nat8 i.chain

/-! ## Replies and reports -/

/-- The status byte of a reply and what follows it (R193, R195 to R198). -/
def Answer.bytes : Answer → List Byte
  | .refused reason kind detail relation =>
      nat8 1 ++ nat8 (reasonCode reason) ++ bytes16 kind ++ nat16 detail
        ++ (match relation with
            | some r => nat8 (relationCode r)
            | none => [])
  | .accepted => nat8 0
  | .identity i => nat8 0 ++ identityBytes i
  | .status r => nat8 0 ++ statusBytes r
  | .parametersSet rows => nat8 0 ++ nat32 (rowMask rows)
  | .parameters values => nat8 0 ++ values.flatMap nat16
  | .loaded slot chain clamped => nat8 0 ++ nat8 slot ++ nat8 chain ++ nat8 clamped.length ++ clamped.flatMap nat8
  | .collected results more => nat8 0 ++ nat8 results.length ++ markByte more ++ results.flatMap resultBytes
  | .queue r => nat8 0 ++ queueBytes r
  | .cleared n => nat8 0 ++ nat8 n
  | .started slot => nat8 0 ++ nat8 slot
  | .paused phase => nat8 0 ++ nat8 (phaseCode phase)
  | .tableOpened n => nat8 0 ++ nat8 n
  | .segmentStored next check => nat8 0 ++ nat8 next ++ bytes16 check
  | .tableClosed outcome received check => nat8 0 ++ nat8 (closeCode outcome) ++ nat8 received ++ bytes16 check
  | .table r => nat8 0 ++ tableBytes r
  | .measurement c p => nat8 0 ++ measurementBytes c p
  | .trail held count records =>
      nat8 0 ++ nat8 held ++ nat16 count ++ nat8 records.length ++ records.flatMap trailRecordBytes
  | .testStarted items => nat8 0 ++ nat8 items

/-- The body of a reply: kind, tag, status and fields (R181). -/
def Reply.body (r : Reply) : List Byte := bytes16 r.kind ++ bytes16 r.tag ++ r.answer.bytes

/-- The body of a report, which carries the tag 0 and the reports-lost marker (R183, R197). The final state of ENTRY FINISHED is
sent by its slot-state code of R193, and not by the two-bit code of R196 (DESIGN CHOICE, unsafe, log entry 34). -/
def Report.body (lost : Bool) : Report → List Byte
  | .jobState j => nat16 0x0060 ++ nat16 0 ++ markByte lost ++ jobStatusBytes j
  | .entryFinished slot number final =>
      nat16 0x0061 ++ nat16 0 ++ markByte lost ++ nat8 slot ++ nat16 number ++ nat8 (slotCode final)
  | .testDone outcome group item passed failure =>
      nat16 0x0062 ++ nat16 0 ++ markByte lost ++ nat8 (outcomeCode outcome) ++ nat8 group ++ nat8 item ++ nat8 passed
        ++ (match failure with
            | some f =>
                nat8 f.group ++ nat8 f.item ++ nat8 (failureCode f.code) ++ nat16 f.read ++ nat16 f.expected
            | none => List.replicate 7 0)

end Sys2Proof.Machine
end

