-- ==== Sys2Proof/Machine/Operands.lean ====
section
/-! DEFINITION. The operand forms of the requests: which bodies fit their kind (R180, R194, R195), how the fields of LOAD
ENTRY, TABLE SEGMENT and SET PARAMETERS are read from a body, and the clamping of setpoints (R12, R43). Offsets count from
the first byte of the body, as chapter 12 counts them; `body` holds the bytes after kind and tag. -/

namespace Sys2Proof.Machine

/-- The body length of a request: kind and tag take four bytes (R174). -/
def bodyLength (body : List Byte) : Nat := 4 + body.length

/-- The number of the lowest `n` bits that are set in `m`. -/
def bitCount : Nat → Nat → Nat
  | 0, _ => 0
  | n + 1, m => (m % 2) + bitCount n (m / 2)

/-- Bit `i` of `m`. -/
def bit (m i : Nat) : Bool := m.testBit i

/-! ## LOAD ENTRY -/

/-- A LOAD ENTRY body fits its kind (R194, R195). -/
def loadFits (body : List Byte) : Bool :=
  decide (bodyLength body = 44 + 2 * bitCount 5 (byteAt body 9)) && decide (byteAt body 9 < 32)
    && (bit (byteAt body 9) 4 == bit (byteAt body 8) 2)

/-- One set of unit settings at offset `i`; bits 4 to 7 of the tine mask are not read (R194, R195). -/
def settingsAt (body : List Byte) (i : Nat) : UnitSettings :=
  { mask := byteAt body i % 16
    shift := intAt body (i + 1)
    depth := intAt body (i + 3)
    pressure := intAt body (i + 5)
    insertions := byteAt body (i + 7) }

/-- The optional field of presence bit `n`: it stands after the fields of the bits below `n` that are set (R194). -/
def optionalAt (body : List Byte) (n : Nat) : Option Int :=
  if bit (byteAt body 9) n then some (intAt body (44 + 2 * bitCount n (byteAt body 9))) else none

/-- The entry of a LOAD ENTRY body, with every value as sent (R194, R195). -/
def decodeEntry (body : List Byte) : Entry :=
  { number := natAt body 4
    distance := natAt body 6
    joinedNext := bit (byteAt body 8) 0
    isEnd := bit (byteAt body 8) 1
    hook := bit (byteAt body 8) 2
    hookSide := if bit (byteAt body 8) 3 then .right else .left
    allowance := intAt body 10
    units := ⟨settingsAt body 12, settingsAt body 20, settingsAt body 28, settingsAt body 36⟩
    frontOffset := (optionalAt body 0).getD 0
    frontLift := (optionalAt body 1).getD 0
    localCurv := (optionalAt body 2).getD 0
    localCant := (optionalAt body 3).getD 0
    branch := optionalAt body 4 }

/-- One set of unit settings as a body holds it (R194). -/
def settingsBytes (u : UnitSettings) : List Byte :=
  nat8 u.mask ++ int16 u.shift ++ int16 u.depth ++ int16 u.pressure ++ nat8 u.insertions

/-- An optional field as a body holds it: its value when the presence mark is set (R194). -/
def optionalBytes (present : Bool) (x : Int) : List Byte := if present then int16 x else []

/-- The LOAD ENTRY body of an entry: e_D, f, K_loc and c_loc stand in it when their presence mark is set, and the branch offset when
the entry has one (R3, R194). -/
def encodeEntry (front lift curv cant : Bool) (e : Entry) : List Byte :=
  nat16 e.number ++ nat16 e.distance
    ++ nat8 (marks [e.joinedNext, e.isEnd, e.hook, e.hookSide == .right])
    ++ nat8 (marks [front, lift, curv, cant, e.branch.isSome])
    ++ int16 e.allowance
    ++ settingsBytes e.units.lo ++ settingsBytes e.units.li ++ settingsBytes e.units.ri ++ settingsBytes e.units.ro
    ++ optionalBytes front e.frontOffset ++ optionalBytes lift e.frontLift ++ optionalBytes curv e.localCurv
    ++ optionalBytes cant e.localCant
    ++ (match e.branch with
        | some x => int16 x
        | none => [])

/-- The code of a clamped field, listed when the value lies outside its range (R12, R195). -/
def listed (code : Nat) (lo hi x : Int) : List Nat := if lo ≤ x ∧ x ≤ hi then [] else [code]

/-- One unit's settings with its four setpoints clamped (R2, R12). -/
def clampSettings (u : UnitSettings) : UnitSettings :=
  { mask := u.mask
    shift := clamp 0 400 u.shift
    depth := clamp 400 650 u.depth
    pressure := clamp 60 150 u.pressure
    insertions := (clamp 1 3 u.insertions).toNat }

/-- The codes of one unit's clamped setpoints, SHIFT, DEPTH, PRESSURE and INSERTIONS from `code` on (R12, R195). -/
def settingsListed (code : Nat) (u : UnitSettings) : List Nat :=
  listed code 0 400 u.shift ++ listed (code + 1) 400 650 u.depth ++ listed (code + 2) 60 150 u.pressure
    ++ listed (code + 3) 1 3 u.insertions

/-- The entry with every setpoint clamped (R12). -/
def clampEntry (e : Entry) : Entry :=
  { e with
    allowance := clamp 0 100 e.allowance
    units := e.units.map clampSettings
    frontOffset := clamp (-1500) 1500 e.frontOffset
    frontLift := clamp 0 1500 e.frontLift
    localCurv := clamp (-10000) 10000 e.localCurv
    localCant := clamp (-1800) 1800 e.localCant
    branch := e.branch.map (clamp (-200) 200) }

/-- The codes of the clamped fields in the order of R12. An absent field stands at its default, which lies in its range. -/
def clampedCodes (e : Entry) : List Nat :=
  listed 1 0 100 e.allowance
    ++ settingsListed 2 e.units.lo ++ settingsListed 6 e.units.li ++ settingsListed 10 e.units.ri
    ++ settingsListed 14 e.units.ro
    ++ listed 18 (-1500) 1500 e.frontOffset ++ listed 19 0 1500 e.frontLift
    ++ listed 20 (-10000) 10000 e.localCurv ++ listed 21 (-1800) 1800 e.localCant
    ++ (match e.branch with
        | some x => listed 22 (-200) 200 x
        | none => [])

/-! ## TABLE SEGMENT -/

/-- The segment kind of a code, when it is one (R193). -/
def kindOfCode : Nat → Option SegmentKind
  | 0 => some .straight
  | 1 => some .curve
  | 2 => some .transition
  | _ => none

/-- A segment as offered: its kind is the code sent (R73, R194). -/
structure OfferedSegment where
  index  : Nat
  kind   : Nat
  start  : Int
  length : Int
  k0     : Int
  k1     : Int
  cant0  : Int
  cant1  : Int
  deriving DecidableEq, Repr

/-- The segment of a TABLE SEGMENT body (R194). -/
def decodeSegment (body : List Byte) : OfferedSegment :=
  { index := byteAt body 4
    kind := byteAt body 5
    start := int32At body 6
    length := int32At body 10
    k0 := intAt body 14
    k1 := intAt body 16
    cant0 := intAt body 18
    cant1 := intAt body 20 }

/-- The segment record stored for an offered segment, when its kind code is one (R72, R76). -/
def OfferedSegment.stored (g : OfferedSegment) : Option Segment :=
  (kindOfCode g.kind).map fun k => ⟨g.index, k, g.start, g.length, g.k0, g.k1, g.cant0, g.cant1⟩

/-! ## SET PARAMETERS -/

/-- The number of job parameters (R43). -/
def paramRows : Nat := 21

/-- The presence mask of a SET PARAMETERS body (R194). -/
def paramMask (body : List Byte) : Nat := nat32At body 4

/-- A SET PARAMETERS body fits its kind (R194, R195). -/
def paramsFit (body : List Byte) : Bool :=
  decide (8 ≤ bodyLength body) && decide (paramMask body < 2 ^ paramRows)
    && decide (bodyLength body = 8 + 2 * bitCount paramRows (paramMask body))

/-- The value a SET PARAMETERS body carries for row `n` of the table of R43, counted from 0 (R195). -/
def paramAt (body : List Byte) (n : Nat) : Option Nat :=
  if bit (paramMask body) n then some (natAt body (8 + 2 * bitCount n (paramMask body))) else none

/-- The range of row `n` of the table of R43, counted from 0; the three choices are coded 0 and 1. -/
def paramRange : Nat → Nat × Nat
  | 0 | 1 | 2 => (0, 1)
  | 3 => (4000, 12000)
  | 4 => (6000, 30000)
  | 5 => (3000, 12000)
  | 6 => (5000, 20000)
  | 7 => (0, 1500)
  | 8 => (0, 1500)
  | 9 => (0, 300)
  | 10 => (5, 30)
  | 11 => (5, 50)
  | 12 => (100, 1000)
  | 13 => (100, 1000)
  | 14 => (0, 3)
  | 15 => (500, 3000)
  | 16 => (0, 3)
  | 17 => (400, 2000)
  | 18 => (1000, 6000)
  | 19 => (5000, 60000)
  | 20 => (2, 5)
  | _ => (0, 0)

/-- A value brought into the range of its row (R43). -/
def clampParam (n v : Nat) : Nat := max (paramRange n).1 (min v (paramRange n).2)

/-- The parameters with row `n` of the table of R43 holding `v`. -/
def Params.put (p : Params) : Nat → Nat → Params
  | 0, v => { p with mode := if v = 0 then .design else .localMode }
  | 1, v => { p with grade := if v = 0 then .left else .right }
  | 2, v => { p with policy := if v = 0 then .halt else .goOn }
  | 3, v => { p with aL := v }
  | 4, v => { p with bL := v }
  | 5, v => { p with aV := v }
  | 6, v => { p with bV := v }
  | 7, v => { p with lineMax := v }
  | 8, v => { p with liftMax := v }
  | 9, v => { p with cantStepMax := v }
  | 10, v => { p with liftTolerance := v }
  | 11, v => { p with posTolerance := v }
  | 12, v => { p with creepDistance := v }
  | 13, v => { p with settleTime := v }
  | 14, v => { p with overshootLimit := v }
  | 15, v => { p with insertionTime := v }
  | 16, v => { p with insertionRetries := v }
  | 17, v => { p with squeezeTime := v }
  | 18, v => { p with liftTime := v }
  | 19, v => { p with joinHold := v }
  | 20, v => { p with grantSlots := v }
  | _, _ => p

/-- The 21 stored values in the order of the table of R43, the choices by their codes (R44, R195). -/
def Params.values (p : Params) : List Nat :=
  [if p.mode = .design then 0 else 1, if p.grade = .left then 0 else 1, if p.policy = .halt then 0 else 1,
   p.aL, p.bL, p.aV, p.bV, p.lineMax, p.liftMax, p.cantStepMax, p.liftTolerance, p.posTolerance, p.creepDistance,
   p.settleTime, p.overshootLimit, p.insertionTime, p.insertionRetries, p.squeezeTime, p.liftTime, p.joinHold,
   p.grantSlots]

/-- The parameters after the rows `ns` of a SET PARAMETERS body: a present value is clamped and stored, an absent one leaves
the row (R43). -/
def Params.setRows (body : List Byte) : List Nat → Params → Params
  | [], p => p
  | n :: ns, p =>
    match paramAt body n with
    | some v => Params.setRows body ns (p.put n (clampParam n v))
    | none => Params.setRows body ns p

/-- The rows of a SET PARAMETERS body whose value lies outside its range (R43). -/
def clampedRows (body : List Byte) : List Nat :=
  (List.range paramRows).filter fun n =>
    match paramAt body n with
    | some v => clampParam n v != v
    | none => false

/-- SET PARAMETERS on the stored values (R43). -/
def Params.update (p : Params) (body : List Byte) : Params := Params.setRows body (List.range paramRows) p

end Sys2Proof.Machine
end

