-- ==== Sys2Proof/Machine/Table.lean ====
section
/-! DEFINITION. The Design Table (chapter 4): the tests of a segment, storing and closing, and the lookup, each as a function
of the table's own record. -/

namespace Sys2Proof.Machine

/-- The end of a segment: its start plus its length (R72). -/
def Segment.stop (g : Segment) : Int := g.start + g.length

/-- `x` lies in `lo` to `hi`, both included. -/
def within (lo hi x : Int) : Bool := decide (lo ≤ x) && decide (x ≤ hi)

/-- The kind's own rule (R73). -/
def OfferedSegment.ruleHolds (g : OfferedSegment) : Bool :=
  match kindOfCode g.kind with
  | some .straight => decide (g.k0 = 0) && decide (g.k1 = 0) && decide (g.cant0 = g.cant1)
  | some .curve => decide (g.k0 = g.k1) && decide (g.k0 ≠ 0) && decide (g.cant0 = g.cant1)
  | some .transition => decide (g.k0 ≠ g.k1)
  | none => false

/-- The detail of TABLE_KIND: the first of the six tests that fails (R73). -/
def OfferedSegment.misfit (g : OfferedSegment) : Option Nat :=
  if (kindOfCode g.kind).isNone then some 1
  else if !within 0 4000000 g.start then some 2
  else if !within 1000 400000 g.length then some 3
  else if !(within (-10000) 10000 g.k0 && within (-10000) 10000 g.k1) then some 4
  else if !(within (-1800) 1800 g.cant0 && within (-1800) 1800 g.cant1) then some 5
  else if !g.ruleHolds then some 6
  else none

/-- The received count, which is also the expected index (R71). -/
def DesignTable.received (t : DesignTable) : Nat := t.segments.length

/-- The declared count, 0 when it is absent. -/
def DesignTable.count (t : DesignTable) : Nat := (t.declared.map (·.1)).getD 0

/-- The segment meets the one before it: the index is 0, or the start is the previous segment's end (R75). -/
def DesignTable.meets (t : DesignTable) (g : OfferedSegment) : Bool :=
  g.index == 0 ||
    (match t.segments[g.index - 1]? with
      | some prev => decide (g.start = prev.stop)
      | none => false)

/-- Why TABLE SEGMENT is refused, by the tests 2 to 6 of R75 in their order; `none` when all pass. -/
def DesignTable.segmentRefusal (t : DesignTable) (g : OfferedSegment) : Option (Reason × Nat) :=
  if t.state ≠ .loading then some (.wrongState, tableCode t.state)
  else if t.count ≤ g.index then some (.tableFull, t.count)
  else if g.index ≠ t.received then some (.tableOrder, t.received)
  else
    match g.misfit with
    | some detail => some (.tableKind, detail)
    | none => if t.meets g then none else some (.tableGap, g.index - 1)

/-- An accepted segment: it is stored at its index, and its 18 bytes are added to the running check (R76, R77). -/
def DesignTable.store (t : DesignTable) (g : Segment) : DesignTable :=
  { t with segments := t.segments ++ [g], check := onesSum t.check (segmentBytes g) }

/-- OPEN TABLE accepted (R74). -/
def DesignTable.opened (count : Nat) (check : Word) : DesignTable := ⟨.loading, some (count, check), [], 0⟩

/-- What CLOSE TABLE finds (R78). -/
def DesignTable.outcome (t : DesignTable) : CloseOutcome :=
  if t.received ≠ t.count then .count
  else if (t.declared.map (·.2)) ≠ some t.check then .check
  else .valid

/-- CLOSE TABLE accepted (R78). -/
def DesignTable.closed (t : DesignTable) : DesignTable :=
  { t with state := if t.outcome = .valid then .valid else .invalid }

/-- What READ TABLE reports for a requested index (R79). -/
def DesignTable.report (t : DesignTable) (index : Nat) : TableReport :=
  { state := t.state, declared := t.declared, received := t.received, expected := t.received, check := t.check
    segment := t.segments[index]? }

/-- RESTART keeps a VALID table and empties any other (R70, R83). -/
def DesignTable.restarted (t : DesignTable) : DesignTable := if t.state = .valid then t else .empty

/-! ## The lookup (section 4.4) -/

/-- The segment in which `x` lies: its start is at or below `x` and its end above (R80). -/
def DesignTable.segmentAt (t : DesignTable) (x : Int) : Option Segment :=
  t.segments.find? fun g => decide (g.start ≤ x) && decide (x < g.stop)

/-- The value at `x` of a quantity that runs linearly from `a` to `b` over a segment: only the increment is rounded (R81). -/
def Segment.interpolate (g : Segment) (a b x : Int) : Int := a + divRound ((b - a) * (x - g.start)) g.length

/-- Curvature and design cant at `x`, or `none` for OFF_TABLE (R80, R81). -/
def DesignTable.lookup (t : DesignTable) (x : Int) : Option (Int × Int) :=
  if t.state = .valid then
    (t.segmentAt x).map fun g => (g.interpolate g.k0 g.k1 x, g.interpolate g.cant0 g.cant1 x)
  else none

end Sys2Proof.Machine
end

