-- ==== Sys2Proof/Machine/Flags.lean ====
section
/-! DEFINITION. The correction computation with its flags (chapter 3): the seven stages, the record they make, and the
residual; and the squeeze judgement with its flags (R91). -/

namespace Sys2Proof.Machine

/-! ## The stages (section 3.3) -/

/-- Stage 1: the design versine d (R52). -/
def versine (aL bL : Nat) (k : Int) : Int := divRound (aL * bL * k) 200000000

/-- A reduction term: the errors of the rear and front end of a chord, each weighted by the far part (R53, R55). -/
def reduction (a b : Nat) (rear front : Int) : Int := divRound (b * rear + a * front) (a + b)

/-- Stage 2: the error of the track at C (R53). -/
def lineError (m d rl : Int) : Int := m - d + rl

/-- Stage 3: the grade-rail lift, with the allowance only where the rail is to be raised (R55). -/
def gradeLift (h rv allowance : Int) : Int := if 0 < h + rv then h + rv + allowance else h + rv

/-- Stage 4: the lifts of the left and the right rail (R57). -/
def railLifts (grade : Side) (ug delta : Int) : Int × Int :=
  match grade with
  | .left => (ug, ug + delta)
  | .right => (ug - delta, ug)

/-- Stage 5: what is added to both lifts so that none is negative (R58). -/
def raiseBoth (uL uR : Int) : Int := if min uL uR < 0 then -(min uL uR) else 0

/-- What the computation reads (R47 to R50): the ordinates, the design curvature and cant, and the rear residuals. -/
structure Inputs where
  m    : Int
  h    : Int
  cm   : Int
  held : Bool
  k    : Int
  cd   : Int
  eA   : Int
  zA   : Int
  deriving DecidableEq, Repr

/-- The correction of an entry from its inputs: the seven stages in order (R52 to R60), with the flags SENSOR_HELD (R48) and
JOIN_BROKEN (R61). -/
def correctionOf (p : Params) (e : Entry) (chainPos : Nat) (c : Int) (i : Inputs) : Correction :=
  let d := versine p.aL p.bL i.k
  let rl := reduction p.aL p.bL i.eA e.frontOffset
  let eC := lineError i.m d rl
  let s := limit p.lineMax (-eC)
  let rv := reduction p.aV p.bV i.zA e.frontLift
  let ug := gradeLift i.h rv e.allowance
  let rawDelta := i.cd - i.cm
  let delta := limit p.cantStepMax rawDelta
  let lifts := railLifts p.grade ug delta
  let raise := raiseBoth lifts.1 lifts.2
  let uL5 := lifts.1 + raise
  let uR5 := lifts.2 + raise
  let uL := min uL5 p.liftMax
  let uR := min uR5 p.liftMax
  let rawHook := (match e.hookSide with
    | .left => uL
    | .right => uR) + e.branch.getD 0
  { c := c, d := d, rl := rl, rv := rv, grade := p.grade, s := s, uL := uL, uR := uR
    hookLift := if e.hook then some (clamp 0 p.liftMax rawHook) else none
    hookSide := if e.hook then some e.hookSide else none
    flags :=
      { lineClamped := exceeds p.lineMax (-eC)
        liftClamped := decide ((p.liftMax : Int) < uL5) || decide ((p.liftMax : Int) < uR5)
          || (e.hook && (decide (rawHook < 0) || decide ((p.liftMax : Int) < rawHook)))
        trackHigh := decide (min lifts.1 lifts.2 < 0)
        cantLimited := exceeds p.cantStepMax rawDelta
        sensorHeld := i.held
        joinBroken := decide (2 ≤ chainPos)
        reused := false } }

/-- The inputs of a computation at C, or the fault code with which it fails: the channels first, then the design (R47 to R51). -/
def correctionInputs (p : Params) (cs : Channels ChannelRec) (table : DesignTable) (trail : Trail) (e : Entry) (c : Int) :
    Except FaultCode Inputs :=
  let level := cs.get (levelChannel p.grade)
  if cs.line.isLost || level.isLost || cs.cant.isLost then .error .sensorLost
  else
    let design := if p.mode = .localMode then some (e.localCurv, e.localCant) else table.lookup c
    match design with
    | none => .error .offTable
    | some (k, cd) =>
      .ok
        { m := cs.line.current, h := level.current, cm := cs.cant.current
          held := cs.line.state == .held || level.state == .held || cs.cant.state == .held
          k := k, cd := cd
          eA := trail.question (·.line) (c - p.aL)
          zA := trail.question (·.level) (c - p.aV) }

/-- The four demands of a correction (R62). -/
def Correction.demands (r : Correction) : Demands :=
  { lining := r.s, left := r.uL, right := r.uR
    hook := match r.hookLift, r.hookSide with
      | some u, some side => some (u, side)
      | _, _ => none }

/-- The record a continuation takes over, with REUSED added (R29, R65). -/
def Correction.takenOver (r : Correction) : Correction := { r with flags := { r.flags with reused := true } }

/-! ## The residual (section 3.5) -/

/-- The residual line and level from the channels and a record, each within ±1,500, when neither LINE nor the level channel
of the record's grade rail is LOST (R67, R68). -/
def residualOf (r : Correction) (cs : Channels ChannelRec) : Option (Int × Int) :=
  let level := cs.get (levelChannel r.grade)
  if cs.line.isLost || level.isLost then none
  else some (clamp (-1500) 1500 (cs.line.current - r.d + r.rl), clamp (-1500) 1500 (level.current + r.rv))

/-! ## The squeeze judgement -/

/-- The judgement of a squeeze from the unit's pressure channel (R91, R130): the two flags gather over the insertions. -/
def UnitResult.judge (r : UnitResult) (channel : ChannelRec) (pressure : Int) : UnitResult :=
  if channel.isLost then { r with pressureUnknown := true }
  else if 9 * pressure ≤ 10 * channel.current then r
  else { r with squeezeLow := true }

end Sys2Proof.Machine
end

