-- ==== Sys2Proof/Machine/Link.lean ====
section
/-! DEFINITION. The Machine Link's own record (chapter 10): the receiver, the end of a frame, the take of a request, the
sending half and the report queue. -/

namespace Sys2Proof.Machine

/-- The time between two bytes of a frame (R177). -/
def byteGap : Nat := 3

/-! ## Reports (R183) -/

/-- The room of the report queue (R173). -/
def reportRoom : Nat := 16

/-- A report is placed, or is lost and sets the marker (R183). -/
def Link.place (l : Link) (r : Report) : Link :=
  if l.reports.length < reportRoom then { l with reports := l.reports ++ [r] } else { l with lost := true }

/-! ## The sending half (R182) -/

/-- The reply list holds a taken reply (R179). -/
def Link.owesReply (l : Link) : Bool := l.replies.any fun r => !r.busy

/-- The RESTART reply has been sent and the restart takes effect (R185). -/
def Link.restartDue (l : Link) : Bool := l.restartPending && !l.owesReply

/-- When the line is free, the oldest reply begins to be sent, and otherwise the oldest report, which leaves the queue with
the marker. No report begins while restart pending is set, and nothing between the RESTART reply and the restart (R182, R183,
R185). Nor does a report begin while a frame waits that may be taken: with no reply in the list that frame is taken at this very
moment, and its reply goes ahead of the report (R179, R182; DESIGN CHOICE, safe, log entry 5). -/
def Link.begin (l : Link) : Link :=
  if l.line.isSome || l.restartDue then l
  else
    match l.replies with
    | r :: _ => { l with line := some ⟨true, frameOf r.body⟩ }
    | [] =>
      if l.restartPending || !l.input.isEmpty then l
      else
        match l.reports with
        | [] => l
        | p :: rest => { l with line := some ⟨false, frameOf (p.body l.lost)⟩, reports := rest, lost := false }

/-- The last byte of the frame on the line has been sent: a reply leaves the reply list (R182). -/
def Link.sent (l : Link) : Link :=
  match l.line with
  | none => l
  | some f => { l with line := none, replies := if f.isReply then l.replies.drop 1 else l.replies }

/-! ## The receiver (R176, R177) -/

/-- A byte taken in HUNT: 0xC3 begins a frame and starts the timer, any other is ignored (R176). -/
def Link.hunt (l : Link) (b : Byte) : Link :=
  if b = 0xC3 then { l with receiver := .lengthFirst, byteTimer := some byteGap }
  else { l with receiver := .hunt, byteTimer := none }

/-- The second length byte: a length of 4 to 240 leads to BODY; any other discards the frame, and the two length bytes are
taken as though they had just arrived in HUNT (R176). -/
def Link.lengthFormed (l : Link) (low high : Byte) : Link :=
  let n := low.toNat + 256 * high.toNat
  if 4 ≤ n ∧ n ≤ 240 then { l with receiver := .body n [], byteTimer := some byteGap }
  else if low = 0xC3 then { l with receiver := .lengthSecond high, byteTimer := some byteGap }
  else l.hunt high

/-- The frame of a whole body: kind, tag and the rest (R174). -/
def frameOfBody (body : List Byte) : Frame :=
  { kind := wordOf (body.getD 0 0) (body.getD 1 0), tag := wordOf (body.getD 2 0) (body.getD 3 0), body := body.drop 4 }

/-- The room of the input buffer, and of the busy refusals in the reply list (R173). -/
def inputRoom : Nat := 4

/-- The kind of a reply: the kind received plus 0x80, and 0x00FF for a kind of 0x0080 or above (R181). -/
def replyKind (kind : Word) : Word := if kind.toNat < 128 then kind + 0x80 else 0x00FF

/-- The busy refusals unsent (R178). -/
def Link.busyUnsent (l : Link) : Nat := (l.replies.filter (·.busy)).length

/-- A LINK_BUSY refusal (R178, R181). -/
def busyReply (f : Frame) : Reply := ⟨true, replyKind f.kind, f.tag, .refused .linkBusy f.kind 4 none⟩

/-- A frame whose check is good: buffered, refused LINK_BUSY, or dropped (R178). -/
def Link.arrive (l : Link) (f : Frame) : Link :=
  if l.input.length < inputRoom then { l with input := l.input ++ [f] }
  else if l.busyUnsent < inputRoom then { l with replies := l.replies ++ [busyReply f] }
  else { l with dropped := min 255 (l.dropped + 1) }

/-- The end of a frame: its check is judged, and the receiver hunts again (R178). -/
def Link.judge (l : Link) (body : List Byte) (check : Word) : Link :=
  let l1 := { l with receiver := .hunt, byteTimer := none }
  if check = checkOf body then l1.arrive (frameOfBody body) else l1

/-- One byte of the line (R176). -/
def Link.receive (l : Link) (b : Byte) : Link :=
  match l.receiver with
  | .hunt => l.hunt b
  | .lengthFirst => { l with receiver := .lengthSecond b, byteTimer := some byteGap }
  | .lengthSecond low => l.lengthFormed low b
  | .body n got =>
    if got.length + 1 < n then { l with receiver := .body n (got ++ [b]), byteTimer := some byteGap }
    else { l with receiver := .checkFirst (got ++ [b]), byteTimer := some byteGap }
  | .checkFirst body => { l with receiver := .checkSecond body b, byteTimer := some byteGap }
  | .checkSecond body low => l.judge body (wordOf low b)

/-- The inter-byte timer expires: the frame under reception is discarded (R177). -/
def Link.gapExpired (l : Link) : Link :=
  if l.byteTimer.isSome then { l with receiver := .hunt, byteTimer := none } else l

/-! ## The take (R179) -/

/-- The frame may be taken now: the buffer is not empty and the frame is its oldest, no taken reply is unsent, and restart pending
is clear (R179). -/
def Link.mayTake (l : Link) (f : Frame) : Bool :=
  !l.owesReply && !l.restartPending && l.input.head? == some f

/-- Taking removes the frame from the buffer (R179). -/
def Link.taken (l : Link) : Link := { l with input := l.input.drop 1 }

/-- The taken reply joins the reply list (R179, R181). -/
def Link.reply (l : Link) (f : Frame) (a : Answer) : Link :=
  { l with replies := l.replies ++ [⟨false, replyKind f.kind, f.tag, a⟩] }

/-- The restart as the link takes it (R186, steps 1 to 5). -/
def Link.restarted (l : Link) : Link :=
  { receiver := .hunt, byteTimer := none, input := [], replies := [], reports := [], lost := false, dropped := 0
    restartPending := false, line := l.line }

end Sys2Proof.Machine
end

