-- ==== Sys2Proof/Machine/Queue.lean ====
section
/-! DEFINITION. The ring of slots (sections 1.2 to 1.5): places and indices, the tests of a load, the collection of results,
and the report of READ QUEUE, each as a function of the queue's own record. -/

namespace Sys2Proof.Machine

/-- The number of slots of the ring (R4, R192). -/
def queueSlots : Nat := 64

/-- The finished states (R6). -/
def SlotState.finished : SlotState → Bool
  | .done | .partDone | .skipped | .aborted => true
  | .free | .ready | .active | .faulted => false

/-- ACTIVE or FAULTED: the states of the active slot (R14). -/
def SlotState.working : SlotState → Bool
  | .active | .faulted => true
  | .free | .ready | .done | .partDone | .skipped | .aborted => false

/-- The slot index of the occupied slot at place `k` from the oldest (R4). -/
def WorkQueue.index (q : WorkQueue) (k : Nat) : Nat := (q.oldest + k) % queueSlots

/-- The tail: the slot after the last occupied one (R4). -/
def WorkQueue.tail (q : WorkQueue) : Nat := q.index q.slots.length

/-- The newest occupied slot (R7). -/
def WorkQueue.newest (q : WorkQueue) : Option Slot := q.slots.getLast?

/-- The place of the active slot, the ACTIVE or FAULTED one (R14). -/
def WorkQueue.activePos (q : WorkQueue) : Option Nat := q.slots.findIdx? (·.state.working)

/-- The active slot's record. -/
def WorkQueue.activeSlot (q : WorkQueue) : Option Slot := q.slots.find? (·.state.working)

/-- The active slot's index, absent when no slot is ACTIVE or FAULTED (R20). -/
def WorkQueue.activeIndex (q : WorkQueue) : Option Nat := q.activePos.map q.index

/-- A slot is in the state given. -/
def WorkQueue.has (q : WorkQueue) (st : SlotState) : Bool := q.slots.any fun x => x.state == st

/-- The place of the oldest READY slot (R14). -/
def WorkQueue.readyPos (q : WorkQueue) : Option Nat := q.slots.findIdx? (·.state == .ready)

/-- The place of the newest finished slot: the held entry's, while a join hold or its release stands without an active
entry (R34, DEDUCED, safe, log entry 15). -/
def WorkQueue.heldPos (q : WorkQueue) : Option Nat :=
  (q.slots.reverse.findIdx? (·.state.finished)).map fun j => q.slots.length - 1 - j

/-- The slot at place `k` changed by `f`. -/
def WorkQueue.modify (q : WorkQueue) (k : Nat) (f : Slot → Slot) : WorkQueue :=
  { q with slots := q.slots.modify k f }

/-- Every slot changed by `f`. -/
def WorkQueue.mapSlots (q : WorkQueue) (f : Slot → Slot) : WorkQueue := { q with slots := q.slots.map f }

/-! ## Loading (R8 to R11) -/

/-- The sleeper number a new entry is tested against, 0 for an empty queue (R9). -/
def WorkQueue.refNumber (q : WorkQueue) : Nat := (q.newest.map (·.entry.number)).getD 0

/-- JOINED_NEXT of the reference entry, clear for an empty queue (R9). -/
def WorkQueue.refJoined (q : WorkQueue) : Bool := (q.newest.map (·.entry.joinedNext)).getD false

/-- The chain position of a new entry (R10). -/
def WorkQueue.nextChainPos (q : WorkQueue) : Nat :=
  if q.refJoined then (q.newest.map (·.chainPos)).getD 0 + 1 else 1

/-- The relation the new number must bear to the reference (R9). -/
def WorkQueue.relation (q : WorkQueue) : Relation := if q.refJoined then .equal else .greater

/-- The sleeper number bears the required relation (R9). -/
def WorkQueue.numberFits (q : WorkQueue) (number : Nat) : Bool :=
  if q.refJoined then decide (number = q.refNumber) else decide (q.refNumber < number)

/-- The detail of JOIN_MISMATCH, when the chain is not well formed (R10). -/
def WorkQueue.joinMismatch (q : WorkQueue) (e : Entry) : Option Nat :=
  if q.refJoined && e.distance != 0 then some 1
  else if e.joinedNext && e.isEnd then some 2
  else if e.joinedNext && q.nextChainPos == 3 then some 3
  else none

/-- Why LOAD ENTRY is refused, by the tests 2 to 5 of R8 in their order; `none` when all pass. -/
def WorkQueue.loadRefusal (q : WorkQueue) (e : Entry) : Option (Reason × Nat × Option Relation) :=
  if queueSlots ≤ q.slots.length then some (.queueFull, 64, none)
  else if !q.numberFits e.number then some (.sequence, q.refNumber, some q.relation)
  else
    match q.joinMismatch e with
    | some detail => some (.joinMismatch, detail, none)
    | none => if 2500 < e.distance then some (.distance, e.distance, none) else none

/-- The READY slot an accepted load fills (R8). -/
def readySlot (e : Entry) (chainPos : Nat) : Slot := ⟨.ready, e, chainPos, 0, none, none, none⟩

/-- An accepted load: the entry goes into the tail slot (R4, R8). -/
def WorkQueue.load (q : WorkQueue) (e : Entry) : WorkQueue :=
  { q with slots := q.slots ++ [readySlot e q.nextChainPos] }

/-! ## Collecting (R19) -/

/-- A collection takes the first of these slots: it is finished, it is not an open chain's newest slot, and it is not the
held entry's under a release without an active slot (`held`). -/
def takesFront (held : Bool) : List Slot → Bool
  | [] => false
  | x :: rest =>
    x.state.finished && !(x.entry.joinedNext && rest.isEmpty) && !(held && !rest.any (·.state.finished))

/-- The slots a collection takes, at most `n`, and those it leaves. -/
def collectFront (held : Bool) : Nat → List Slot → List Slot × List Slot
  | 0, l => ([], l)
  | _ + 1, [] => ([], [])
  | n + 1, x :: rest =>
    if takesFront held (x :: rest) then
      ((x :: (collectFront held n rest).1), (collectFront held n rest).2)
    else ([], x :: rest)

/-- The slots a COLLECT RESULTS takes: at most 6. -/
def WorkQueue.collected (q : WorkQueue) (held : Bool) : List Slot := (collectFront held 6 q.slots).1

/-- The queue after a COLLECT RESULTS: the oldest index has advanced past the slots taken (R4). -/
def WorkQueue.afterCollect (q : WorkQueue) (held : Bool) : WorkQueue :=
  { oldest := q.index (q.collected held).length, slots := (collectFront held 6 q.slots).2 }

/-! ## Reading and clearing -/

/-- The number of occupied slots in one state. -/
def WorkQueue.countOf (q : WorkQueue) (st : SlotState) : Nat := (q.slots.filter (·.state == st)).length

/-- What READ QUEUE reports (R20). -/
def WorkQueue.report (q : WorkQueue) : QueueReport :=
  { counts := [queueSlots - q.slots.length, q.countOf .ready, q.countOf .active, q.countOf .faulted, q.countOf .done,
      q.countOf .partDone, q.countOf .skipped, q.countOf .aborted]
    oldest := if q.slots.isEmpty then none else some q.oldest
    active := q.activeIndex
    tail := q.tail
    lastNumber := q.newest.map (·.entry.number)
    newest := q.newest.map fun x => (x.entry.joinedNext, x.chainPos) }

/-- The queue with every slot FREE and both indices 0 (R21, R22). -/
def WorkQueue.cleared : WorkQueue := ⟨0, []⟩

end Sys2Proof.Machine
end

