-- ==== Sys2Proof/Machine/Ops.lean ====
section
/-! DEFINITION. The named operations over the state that every family shares: the update of one block, orders to the Field
Side, reports, the arbiter, the drive, the gate, and the end of a command. -/

namespace Sys2Proof.Machine

/-! ## The update of one block -/

def State.setLink (s : State) (v : Link) : State := { s with link := v }
def State.setQueue (s : State) (v : WorkQueue) : State := { s with queue := v }
def State.setJob (s : State) (v : Job) : State := { s with job := v }
def State.setParams (s : State) (v : Params) : State := { s with params := v }
def State.setEngine (s : State) (v : Engine) : State := { s with engine := v }
def State.setTable (s : State) (v : DesignTable) : State := { s with table := v }
def State.setMeas (s : State) (v : Measurement) : State := { s with meas := v }
def State.setTrail (s : State) (v : Trail) : State := { s with trail := v }
def State.setTravel (s : State) (v : Travel) : State := { s with travel := v }
def State.setUnits (s : State) (v : Quad TUnit) : State := { s with units := v }
def State.setLlu (s : State) (v : Llu) : State := { s with llu := v }
def State.setArb (s : State) (v : Arbiter) : State := { s with arb := v }
def State.setTest (s : State) (v : SelfTest) : State := { s with test := v }
def State.setField (s : State) (v : FieldSide) : State := { s with field := v }

/-- An order goes to the Field Side (DESIGN CHOICE, safe, log entry 11). -/
def send (o : FieldOrder) (s : State) : State := s.setField { s.field with sent := s.field.sent ++ [o] }

/-- A report is placed in the report queue (R183). -/
def place (r : Report) (s : State) : State := s.setLink (s.link.place r)

/-- The arbiter takes a request, a release, a withdrawal or another event of its own. -/
def arbiter (f : Arbiter → Arbiter) (s : State) : State := s.setArb (f s.arb)

/-- What a JOB STATE report shows (R25, R183). -/
def State.jobStatus (s : State) : JobStatus :=
  ⟨s.job.state, s.job.phase, s.job.endReason, s.job.halt, s.job.pausePending, s.queue.activeIndex⟩

/-- Job Control places a JOB STATE report (R25). -/
def reportJob (s : State) : State := place (.jobState s.jobStatus) s

/-! ## The squeeze gate and the places at park -/

/-- The squeeze gate: open exactly while the LLU is AT_DEMAND or HOLDING (R152). To Job Control the LLU then counts as at
demand. -/
def Llu.atDemandOrHolding (l : Llu) : Bool := l.state == .atDemand || l.state == .holding

def State.gateOpen (s : State) : Bool := s.llu.atDemandOrHolding

/-- Every unit is PARKED. -/
def State.allParked (s : State) : Bool := s.units.all (·.state == .parked)

/-- The detail of NOT_PARKED: the first failing of LO, LI, RI, RO, the LLU and the stop line (R27). -/
def State.notParked (s : State) : Option Nat :=
  if s.units.lo.state ≠ .parked then some 1
  else if s.units.li.state ≠ .parked then some 2
  else if s.units.ri.state ≠ .parked then some 3
  else if s.units.ro.state ≠ .parked then some 4
  else if s.llu.state ≠ .isOpen then some 5
  else if s.field.stopLine then some 6
  else none

/-- An entry is ACTIVE or FAULTED: a retreat or the stop line freezes the unit results (R133). -/
def State.entryInWork (s : State) : Bool := s.queue.activePos.isSome

/-! ## The drive (section 6.2) -/

/-- The wanted order of a positioner state (R104). -/
def wantedDrive : PosState → Drive
  | .idle | .stopping | .inPosition => .stop
  | .fast => .forwardFast
  | .creep => .forwardCreep
  | .reversing => .reverseCreep

/-- A unit's state lets the machine drive (R105). -/
def UnitState.mayTravel : UnitState → Bool
  | .parked | .shifting | .set => true
  | .unhomed | .lowering | .inserted | .squeezing | .opening | .liftingOut | .raising | .retreating | .held | .stuck => false

/-- The drive permission (R105). -/
def State.drivePermitted (s : State) : Bool :=
  s.job.state == .running && s.job.phase == some .positioning && s.llu.state == .isOpen
    && s.units.all (·.state.mayTravel)

/-- The drive order to be issued: the wanted one while the permission holds, and STOP otherwise (R104). -/
def State.driveDue (s : State) : Drive := if s.drivePermitted then wantedDrive s.travel.state else .stop

/-- The drive order is sent when it changes (R104). -/
def issueDrive (s : State) : State :=
  if s.travel.drive = s.driveDue then s
  else send (.drive s.driveDue) (s.setTravel { s.travel with drive := s.driveDue })

/-- The Positioner becomes IDLE: its settle timer stops, P, T and the reversal count are kept (R115), and the drive order STOP goes
out at once when it is a change (R104, R105, R116). -/
def positionerIdle (s : State) : State := issueDrive (s.setTravel { s.travel with state := .idle, settle := none })

/-! ## The end of a command -/

/-- When the line is free, the next frame begins (R182; DEDUCED, safe, log entry 12). -/
def startSending (s : State) : State := s.setLink s.link.begin

/-- What ends every command that can change the drive or place a report: the drive order is issued when it has changed, and
the line goes on. -/
def conclude (s : State) : State := startSending (issueDrive s)

end Sys2Proof.Machine
end

