-- ==== Sys2Proof/Machine/Units.lean ====
section
/-! DEFINITION. The operations of a tamping unit (chapter 7) that do not involve Job Control's decisions: orders and cancels,
motion states and grants, activation and work order, squeeze, timeout, retreat order and stop line. -/

namespace Sys2Proof.Machine

/-- The fixed timeouts of the motions, ms (R43): side-shift, raise to mid or park, tine opening. -/
def shiftTime : Nat := 3000
def raiseTime : Nat := 2500
def openTime : Nat := 1000

/-- The five motion states (R119). -/
def UnitState.motion : UnitState → Bool
  | .shifting | .lowering | .liftingOut | .raising | .retreating => true
  | .unhomed | .parked | .set | .inserted | .squeezing | .opening | .held | .stuck => false

def State.unit (s : State) (u : UnitId) : TUnit := s.units.get u

/-- One unit's record changed by `f`. -/
def changeUnit (u : UnitId) (f : TUnit → TUnit) (s : State) : State := s.setUnits (s.units.set u (f (s.unit u)))

/-! ## Orders (R121) -/

/-- The unit issues an order: it carries the next order number, becomes the outstanding order, and its timer starts. -/
def orderUnit (u : UnitId) (o : UnitOrder) (ms : Nat) (s : State) : State :=
  let n := nextNumber (s.unit u).orderNo
  send (.unit u o n) (changeUnit u (fun x => { x with order := some (o, n), orderNo := n, timer := some ms }) s)

/-- The unit cancels its outstanding order, if it has one; no order is outstanding and its timer is stopped. -/
def cancelUnit (u : UnitId) (s : State) : State :=
  let s1 := changeUnit u (fun x => { x with order := none, timer := none }) s
  match (s.unit u).order with
  | some (_, n) => send (.unitCancel u n) s1
  | none => s1

/-- A completion ends its order: the timer is stopped and no order is outstanding. -/
def endUnitOrder (u : UnitId) (s : State) : State := changeUnit u (fun x => { x with order := none, timer := none }) s

/-- The unit's outstanding order is of the kind `p` and carries the number given (R121). -/
def TUnit.awaits (x : TUnit) (p : UnitOrder → Bool) (number : Nat) : Bool :=
  match x.order with
  | some (o, n) => p o && n == number
  | none => false

def UnitOrder.isShift : UnitOrder → Bool
  | .shift _ _ => true
  | .lower _ | .squeeze _ | .opens | .raiseMid | .raisePark => false

def UnitOrder.isLower : UnitOrder → Bool
  | .lower _ => true
  | .shift _ _ | .squeeze _ | .opens | .raiseMid | .raisePark => false

/-! ## Motion states and grants (R122) -/

/-- The unit enters a motion state: it waits, and its request is placed. -/
def enterMotion (u : UnitId) (st : UnitState) (s : State) : State :=
  arbiter (Arbiter.request (.unit u)) (changeUnit u (fun x => { x with state := st, waiting := true }) s)

def releaseGrant (u : UnitId) (s : State) : State := arbiter (Arbiter.release (.unit u)) s

/-- The unit leaves a motion state before its end: a waiting unit withdraws its request; a moving one cancels its order and
releases its grant (R122, R135). -/
def leaveMotion (u : UnitId) (s : State) : State :=
  if (s.unit u).waiting then
    arbiter (Arbiter.withdraw (.unit u)) (changeUnit u (fun x => { x with waiting := false }) s)
  else releaseGrant u (cancelUnit u s)

/-- The settings of the entry; a unit in a motion of an entry has them (R118). -/
def TUnit.given (x : TUnit) : UnitSettings := x.settings.getD ⟨0, 0, 0, 0, 0⟩

/-- The order of a motion state with its time (R119, R124, R125, R127, R132, R136). -/
def TUnit.motionOrder (x : TUnit) (p : Params) : Option (UnitOrder × Nat) :=
  match x.state with
  | .shifting => some (.shift x.given.shift x.given.mask, shiftTime)
  | .lowering => some (.lower x.given.depth, p.insertionTime)
  | .liftingOut => some (.raiseMid, raiseTime)
  | .raising | .retreating => some (.raisePark, raiseTime)
  | .unhomed | .parked | .set | .inserted | .squeezing | .opening | .held | .stuck => none

/-! ## Activation and work order (R123, R125) -/

/-- The unit takes its settings for an entry; a used unit enters SHIFTING (R123). -/
def activateUnit (u : UnitId) (g : UnitSettings) (s : State) : State :=
  let s1 := changeUnit u (fun x =>
    { x with
      settings := some g, workOrdered := false, frozen := false, insertion := 1, retries := 0
      result := { UnitResult.empty with used := g.mask != 0 } }) s
  if g.mask = 0 then s1 else enterMotion u .shifting s1

/-- Every unit takes its settings, in the order LO, LI, RI, RO (R28, DESIGN CHOICE, unsafe, log entry 6). -/
def activateUnits (g : Quad UnitSettings) (s : State) : State :=
  activateUnit .ro g.ro (activateUnit .ri g.ri (activateUnit .li g.li (activateUnit .lo g.lo s)))

/-- The work order reaches a unit: a SET unit enters LOWERING, a SHIFTING one keeps shifting; any other is left as it
stands, and so is one whose work is ordered already (R125, R141). -/
def workUnit (u : UnitId) (s : State) : State :=
  let x := s.unit u
  if !x.result.used || x.workOrdered then s
  else
    match x.state with
    | .set => enterMotion u .lowering (changeUnit u (fun x => { x with workOrdered := true }) s)
    | .shifting => changeUnit u (fun x => { x with workOrdered := true }) s
    | _ => s

/-- Each used unit is told to work, in the order LO, LI, RI, RO (R30). -/
def workUnits (s : State) : State := workUnit .ro (workUnit .ri (workUnit .li (workUnit .lo s)))

/-! ## Squeeze (R129) -/

/-- The unit enters SQUEEZING: SQUEEZE is ordered and the tines-closed mark set. -/
def startSqueeze (u : UnitId) (s : State) : State :=
  orderUnit u (.squeeze (s.unit u).given.pressure) s.params.squeezeTime
    (changeUnit u (fun x => { x with state := .squeezing, tinesClosed := true }) s)

/-- The opening of the gate reaches a unit: an INSERTED one squeezes (R129, R141). -/
def gateOpensFor (u : UnitId) (s : State) : State := if (s.unit u).state = .inserted then startSqueeze u s else s

/-- The opening of the gate reaches every unit (R152). -/
def openGate (s : State) : State := gateOpensFor .ro (gateOpensFor .ri (gateOpensFor .li (gateOpensFor .lo s)))

/-- The unit's result changes, unless it is frozen (R133). -/
def TUnit.record (f : UnitResult → UnitResult) (x : TUnit) : TUnit :=
  if x.frozen then x else { x with result := f x.result }

/-- OPEN is ordered and the unit enters OPENING (R130, R135, R139). -/
def startOpening (u : UnitId) (s : State) : State :=
  orderUnit u .opens openTime (changeUnit u (fun x => { x with state := .opening }) s)

/-! ## Timeouts (R134) -/

/-- A motion has timed out: the order is cancelled, the grant released, and the unit is STUCK; the change reaches the Positioner,
whose drive permission it ends, so that the drive order STOP goes out before the fault is handed over (R105, R122). -/
def stickUnit (u : UnitId) (s : State) : State :=
  issueDrive (releaseGrant u (changeUnit u (fun x => { x with state := .stuck, retreat := false }) (cancelUnit u s)))

/-! ## Retreat (R135) -/

/-- The marks every retreat order makes on a unit (R135; DEDUCED, unsafe, log entry 9). -/
def markRetreat (u : UnitId) (s : State) : State :=
  changeUnit u (fun x =>
    { x with retreat := true, workOrdered := false, frozen := x.frozen || s.entryInWork }) s

/-- The unit stands at park height and becomes PARKED; its retreat is over (R135, DEDUCED, unsafe, log entry 8). -/
def parkUnit (u : UnitId) (s : State) : State := changeUnit u (fun x => { x with state := .parked, retreat := false }) s

/-- The retreat order is taken by a unit (R135). `parkAll` tells a PARK ALL, the only order that takes an UNHOMED or STUCK
unit (R38; DEDUCED, unsafe, log entries 9 and 10). -/
def retreatUnit (parkAll : Bool) (u : UnitId) (s : State) : State :=
  let x := s.unit u
  match x.state with
  | .parked => s
  | .set => parkUnit u (markRetreat u s)
  | .shifting => parkUnit u (leaveMotion u (markRetreat u s))
  | .lowering | .liftingOut | .raising => enterMotion u .retreating (leaveMotion u (markRetreat u s))
  | .inserted => enterMotion u .retreating (markRetreat u s)
  | .squeezing => startOpening u (markRetreat u s)
  | .opening | .retreating | .held => markRetreat u s
  | .unhomed => if parkAll then enterMotion u .retreating (markRetreat u s) else s
  | .stuck =>
    if !parkAll then s
    else if x.tinesClosed then startOpening u (markRetreat u s)
    else enterMotion u .retreating (markRetreat u s)

/-- The retreat order goes to the units, in the order LO, LI, RI, RO (R38, DESIGN CHOICE, unsafe, log entry 6). -/
def retreatUnits (parkAll : Bool) (s : State) : State :=
  retreatUnit parkAll .ro (retreatUnit parkAll .ri (retreatUnit parkAll .li (retreatUnit parkAll .lo s)))

/-! ## The stop line (R138, R139) -/

/-- The states the assertion leaves as they are (R138). -/
def UnitState.stopIgnored : UnitState → Bool
  | .parked | .set | .unhomed | .stuck | .held => true
  | .shifting | .lowering | .inserted | .squeezing | .opening | .liftingOut | .raising | .retreating => false

/-- The assertion reaches a unit: it becomes HELD, with its order cancelled and its grant or request given up (R138). -/
def holdUnit (u : UnitId) (s : State) : State :=
  if (s.unit u).state.stopIgnored then s
  else
    changeUnit u (fun x => { x with state := .held, waiting := false, frozen := x.frozen || s.entryInWork }) (cancelUnit u s)

def holdUnits (s : State) : State := holdUnit .ro (holdUnit .ri (holdUnit .li (holdUnit .lo s)))

/-- The release reaches a unit: a HELD one opens its tines if they are closed, and goes up to park (R139). -/
def resumeUnit (u : UnitId) (s : State) : State :=
  let x := s.unit u
  if x.state ≠ .held then s
  else
    let s1 := changeUnit u (fun x => { x with retreat := true }) s
    if x.tinesClosed then startOpening u s1 else enterMotion u .retreating s1

def resumeUnits (s : State) : State := resumeUnit .ro (resumeUnit .ri (resumeUnit .li (resumeUnit .lo s)))

/-! ## RESTART (R120) -/

/-- RESTART reaches a unit: settings, work order and result are emptied; a unit in a motion state cancels its order and
places its request again, and waits; its insertion number and retries stay (DEDUCED, safe, log entry 31). -/
def restartUnit (u : UnitId) (s : State) : State :=
  let s1 := changeUnit u (fun x =>
    { x with settings := none, workOrdered := false, frozen := false, result := .empty }) s
  if (s.unit u).state.motion then enterMotion u (s.unit u).state (cancelUnit u s1) else s1

def restartUnits (s : State) : State := restartUnit .ro (restartUnit .ri (restartUnit .li (restartUnit .lo s)))

end Sys2Proof.Machine
end

