-- ==== Sys2Proof/Machine/Lifting.lean ====
section
/-! DEFINITION. The operations of the LLU (chapter 8) that do not involve Job Control's decisions: orders and cancels, work,
baseline, achieved values and arrival test, hold, release, retreat order, stop line and RESTART. -/

namespace Sys2Proof.Machine

/-- The fixed timeout of CLAMP and of UNCLAMP, ms (R43, R142). -/
def clampTime : Nat := 1500

/-- The LLU's record changed by `f`. -/
def changeLlu (f : Llu → Llu) (s : State) : State := s.setLlu (f s.llu)

/-! ## Orders (R145) -/

/-- The LLU issues an order: it carries the next order number, becomes the outstanding order, and its timer starts. -/
def orderLlu (o : LluOrder) (ms : Nat) (s : State) : State :=
  let n := nextNumber s.llu.orderNo
  send (.llu o n) (changeLlu (fun x => { x with order := some (o, n), orderNo := n, timer := some ms }) s)

/-- The LLU cancels its outstanding order, if it has one. -/
def cancelLlu (s : State) : State :=
  let s1 := changeLlu (fun x => { x with order := none, timer := none }) s
  match s.llu.order with
  | some (_, n) => send (.lluCancel n) s1
  | none => s1

/-- An order ends without a CANCEL: its timer is stopped and it is no longer outstanding. -/
def endLluOrder (s : State) : State := changeLlu (fun x => { x with order := none, timer := none }) s

/-- The LLU's outstanding order is of the kind `p` and carries the number given (R145). -/
def Llu.awaits (x : Llu) (p : LluOrder → Bool) (number : Nat) : Bool :=
  match x.order with
  | some (o, n) => p o && n == number
  | none => false

def LluOrder.isClamp : LluOrder → Bool
  | .clamp _ => true
  | .liftLine _ _ _ _ | .unclamp => false

def LluOrder.isLift : LluOrder → Bool
  | .liftLine _ _ _ _ => true
  | .clamp _ | .unclamp => false

def releaseLluGrant (s : State) : State := arbiter (Arbiter.release .llu) s

/-- The LLU gives up its motion: a waiting request is withdrawn, or the order is cancelled and the grant released (R151,
R158). -/
def leaveLluMotion (s : State) : State :=
  if s.llu.waiting then arbiter (Arbiter.withdraw .llu) (changeLlu (fun x => { x with waiting := false }) s)
  else releaseLluGrant (cancelLlu s)

/-! ## Clamping (R146, R147) -/

/-- The LLU is ordered to work: an OPEN one stores the demands, enters CLAMPING and places its request (R146, R161). -/
def lluWork (d : Demands) (s : State) : State :=
  if s.llu.state ≠ .isOpen then s
  else
    arbiter (Arbiter.request .llu)
      (changeLlu (fun x =>
        { x with
          state := .clamping, waiting := true, demands := some d, baseline := none, achieved := none
          reached := false, liftShort := false, lineForce := false }) s)

/-- The demands in hand; an LLU at work has them (R142). -/
def Llu.demanded (x : Llu) : Demands := x.demands.getD ⟨0, 0, 0, none⟩

/-- The channels the LLU lifts by: LINE, the grade rail's level channel and CANT, and HOOK when the hook counts (R147, R151). -/
def liftChannels (grade : Side) (hook : Bool) : List Channel :=
  [.line, levelChannel grade, .cant] ++ (if hook then [.hook] else [])

/-- The baseline from the channels' current values (R147). -/
def baselineOf (cs : Channels ChannelRec) (grade : Side) (hook : Bool) : Baseline :=
  { m0 := cs.line.current
    h0 := (cs.get (levelChannel grade)).current
    c0 := cs.cant.current
    hook0 := if hook then some cs.hook.current else none }

/-- The order LIFT_LINE with the demands; the hook lift only with the hook engaged (R147, section 8.2). -/
def Llu.liftOrder (x : Llu) : LluOrder :=
  .liftLine x.demanded.lining x.demanded.left x.demanded.right
    (if x.hookEngaged then x.demanded.hook.map (·.1) else none)

/-! ## Lifting (R148, R149) -/

/-- The achieved values of a sample (R148). -/
def achievedOf (b : Baseline) (cs : Channels ChannelRec) (grade : Side) (hook : Bool) : Achieved :=
  let rail := b.h0 - (cs.get (levelChannel grade)).current
  let cantChange := cs.cant.current - b.c0
  { line := cs.line.current - b.m0
    left := match grade with
      | .left => rail
      | .right => rail - cantChange
    right := match grade with
      | .left => rail + cantChange
      | .right => rail
    hook := if hook then some (cs.hook.current - b.hook0.getD 0) else none }

/-- A channel the baseline and the achieved values need is LOST, and has no value to read (R87, R147). -/
def State.baselineLost (s : State) : Bool :=
  (liftChannels s.params.grade s.llu.hookEngaged).any fun c => (s.meas.channels.get c).isLost

/-- The achieved values that the channels give an LLU in LIFTING (R148): none when a channel it reads is LOST (R87), or when RESTART
has made the baseline absent (R144). Both come under the retreat mark alone (DEDUCED, unsafe, log entry 37). -/
def State.achievedNow (s : State) : Option Achieved :=
  if s.baselineLost then none
  else s.llu.baseline.map fun b => achievedOf b s.meas.channels s.params.grade s.llu.hookEngaged

/-- The achieved values are formed from the channels' current values, and stay as they stand when none can be formed (R148). -/
def formAchieved (s : State) : State :=
  match s.achievedNow with
  | some a => changeLlu (fun x => { x with achieved := some a }) s
  | none => s

/-- An axis stands within the lift tolerance of its demand (R149). -/
def onAxis (tolerance : Nat) (achieved demand : Int) : Bool := decide ((achieved - demand).natAbs ≤ tolerance)

/-- Every axis stands within the lift tolerance; the hook counts when it is engaged and a hook demand stands (R149). -/
def arrived (tolerance : Nat) (a : Achieved) (d : Demands) : Bool :=
  onAxis tolerance a.line d.lining && onAxis tolerance a.left d.left && onAxis tolerance a.right d.right
    && (match a.hook, d.hook with
        | some h, some (u, _) => onAxis tolerance h u
        | _, _ => true)

/-- The values that the sample gives pass the arrival test (R149). -/
def State.hasArrived (s : State) : Bool :=
  s.achievedNow.any fun a => arrived s.params.liftTolerance a s.llu.demanded

/-- The LLU stands at demand: LIFT_LINE is no longer outstanding, the grant is released, the reached mark set, and the gate
opens (R149, steps 2 to 4). -/
def reachDemand (s : State) : State :=
  openGate (changeLlu (fun x => { x with reached := true, state := .atDemand }) (releaseLluGrant (endLluOrder s)))

/-! ## Hold and release (R153, R155) -/

/-- The hold order: an LLU AT_DEMAND or HOLDING is HOLDING (R153, R161). -/
def lluHold (s : State) : State :=
  if s.llu.atDemandOrHolding then changeLlu (fun x => { x with state := .holding }) s else s

/-- The LLU enters RELEASING and places its request (R155, R159). -/
def startRelease (s : State) : State :=
  arbiter (Arbiter.request .llu) (changeLlu (fun x => { x with state := .releasing, waiting := true, joinHold := none }) s)

/-- The release order: taken AT_DEMAND or HOLDING (R155, R161). -/
def lluRelease (s : State) : State := if s.llu.atDemandOrHolding then startRelease s else s

/-! ## Retreat (R158, R159) -/

/-- The LLU becomes OPEN under a retreat: its retreat mark is cleared (R158, R160). -/
def openUnderRetreat (s : State) : State := changeLlu (fun x => { x with state := .isOpen, retreat := false }) s

/-- The retreat order is taken by the LLU (R158). An UNHOMED or STUCK LLU takes it under PARK ALL alone (DEDUCED, unsafe, log
entry 10). -/
def lluRetreatOrder (parkAll : Bool) (s : State) : State :=
  match s.llu.state with
  | .unhomed | .stuck => if parkAll then changeLlu (fun x => { x with retreat := true, joinHold := none, settle := none }) s else s
  | st =>
    let s1 := changeLlu (fun x => { x with retreat := true, joinHold := none, settle := none }) s
    match st with
    | .isOpen | .settling => openUnderRetreat (leaveLluMotion s1)
    | .clamping =>
      if s.llu.clampsClosed then leaveLluMotion s1 else openUnderRetreat (leaveLluMotion s1)
    | .lifting | .atDemand | .holding => leaveLluMotion s1
    | .releasing | .held | .unhomed | .stuck => s1

/-- The states in which an LLU under a retreat waits for the units: clamped, or UNHOMED or STUCK under PARK ALL, or HELD
after the stop line's release (R159, R160). -/
def LluState.waitsClamped : LluState → Bool
  | .clamping | .lifting | .atDemand | .holding | .unhomed | .stuck | .held => true
  | .isOpen | .releasing | .settling => false

/-- An LLU under a retreat releases when every unit is PARKED and the stop line is not asserted (R159). -/
def lluRetreatRelease (s : State) : State :=
  if s.llu.retreat && s.llu.state.waitsClamped && s.allParked && !s.field.stopLine then startRelease s else s

/-! ## The stop line (R160) -/

/-- The states the assertion leaves as they are (R160). -/
def LluState.stopIgnored : LluState → Bool
  | .isOpen | .unhomed | .stuck | .held => true
  | .clamping | .lifting | .atDemand | .holding | .releasing | .settling => false

/-- The assertion reaches the LLU: it becomes HELD, its order is cancelled and every timer stopped (R160). -/
def lluStop (s : State) : State :=
  if s.llu.state.stopIgnored then s
  else changeLlu (fun x => { x with state := .held, waiting := false, joinHold := none, settle := none }) (cancelLlu s)

/-- The release reaches a HELD LLU: it is OPEN when its clamps are open, and otherwise waits for the units (R160). -/
def lluStopReleased (s : State) : State :=
  if s.llu.state ≠ .held then s
  else if s.llu.clampsClosed then changeLlu (fun x => { x with retreat := true }) s
  else openUnderRetreat s

/-! ## RESTART (R144) -/

/-- RESTART reaches the LLU: demands, baseline, achieved values, reached mark and flags are cleared; a RELEASING one cancels
its UNCLAMP and places its request again. -/
def restartLlu (s : State) : State :=
  let s1 := changeLlu (fun x =>
    { x with demands := none, baseline := none, achieved := none, reached := false, liftShort := false, lineForce := false }) s
  if s.llu.state = .releasing then
    arbiter (Arbiter.request .llu) (changeLlu (fun x => { x with waiting := true }) (cancelLlu s1))
  else s1

end Sys2Proof.Machine
end

