-- ==== Sys2Proof/Machine/JobControl.lean ====
section
/-! DEFINITION. Job Control (chapter 2) with the Positioner's start (chapter 6): results and finishes, activation, the end of
work and the finish tests, halt and common retreat, faults, and the events Job Control hears of. -/

namespace Sys2Proof.Machine

/-! ## The Positioner's start (R107) -/

/-- The target, present whenever an entry has been activated (R102; 0 where no run comes: DESIGN CHOICE, log entry 22). -/
def Travel.goal (t : Travel) : Int := t.target.getD 0

/-- Positioning starts: the reversal count becomes 0 and the first case that holds is taken (R107). -/
def startPositioning (s : State) : State :=
  let t := s.travel
  let tol : Int := s.params.posTolerance
  let stopped := { t with reversals := 0, settle := none }
  s.setTravel
    (if s.params.creepDistance < t.goal - t.p then { stopped with state := .fast }
     else if tol < t.goal - t.p then { stopped with state := .creep }
     else if tol < t.p - t.goal then { stopped with state := .reversing, reversals := 1 }
     else { stopped with state := .stopping, settle := some s.params.settleTime })

/-! ## Results (R16 to R18) -/

/-- What the LLU gives to a result: nothing while its reached mark is clear (R161). -/
def Llu.achievement (x : Llu) : Option Achievement :=
  if x.reached then x.achieved.map fun a => ⟨a, x.liftShort, x.lineForce⟩ else none

/-- The unit results as they stand. -/
def State.unitResults (s : State) : Quad UnitResult := s.units.map (·.result)

/-- What the working of a slot's entry has reached: what the halt kept for a FAULTED one, and what the units and the LLU hold
otherwise (R18, R37, R161). -/
def State.reachedBy (s : State) (x : Slot) : Kept :=
  match x.state, x.kept with
  | .faulted, some k => k
  | _, _ => ⟨s.unitResults, s.llu.achievement⟩

/-- The correction part of a result, formed from the slot copy: the hook lift only for an entry with HOOK (R16, R65, R66). -/
def correctionPart (e : Entry) (r : Correction) : ResultCorrection :=
  ⟨r.s, r.uL, r.uR, if e.hook then r.hookLift else none, r.flags⟩

/-- The achievement part of a result: the hook stroke only for an entry with HOOK (R17, R65). -/
def achievementPart (e : Entry) (a : Achievement) : Achievement :=
  { a with values := { a.values with hook := if e.hook then a.values.hook else none } }

/-- A result record from a slot and what its working reached (R16, R17, R18). -/
def resultOf (slot : Nat) (x : Slot) (k : Kept) (final : SlotState) (residual : Option (Int × Int)) (missing : Bool)
    (fault : Option FaultCode) : Result :=
  { number := x.entry.number, slot := slot, final := final
    c := x.copy.map (·.c)
    correction := x.copy.map (correctionPart x.entry)
    achieved := k.achieved.map (achievementPart x.entry)
    residual := residual, residualMissing := missing
    units := k.units, fault := fault, retries := x.retries }

/-- The active entry finishes: its result is written, its slot takes the final state, and ENTRY FINISHED is placed, in this
order (R15). -/
def finishActive (final : SlotState) (residual : Option (Int × Int)) (missing : Bool) (fault : Option FaultCode)
    (s : State) : State :=
  match s.queue.activePos, s.queue.activeSlot with
  | some k, some x =>
    let slot := s.queue.index k
    let r := resultOf slot x (s.reachedBy x) final residual missing fault
    place (.entryFinished slot x.entry.number final)
      (s.setQueue (s.queue.modify k fun y => { y with state := final, result := some r }))
  | _, _ => s

/-- The final state of an entry that was worked to its end: PARTIAL when a unit was blocked (R31). -/
def State.workedFinal (s : State) : SlotState := if s.unitResults.any (·.blocked) then .partDone else .done

/-- The result of a READY entry turned ABORTED (R18). -/
def abortedReady (slot : Nat) (x : Slot) : Result :=
  resultOf slot x ⟨x.entry.units.map fun g => { UnitResult.empty with used := g.mask != 0 }, none⟩ .aborted none false none

/-- Every READY slot becomes ABORTED with its result, from the slot of index `i` on (R41). -/
def abortReady (i : Nat) : List Slot → List Slot
  | [] => []
  | x :: rest =>
    (if x.state = .ready then { x with state := .aborted, result := some (abortedReady (i % queueSlots) x) } else x)
      :: abortReady (i + 1) rest

/-! ## The correction record (R64) -/

/-- The record becomes HELD at the finish of an entry whose track is held. -/
def Engine.hold : Engine → Engine
  | .working r => .held r
  | e => e

/-- A continuation takes the held record over (R29, R65). -/
def Engine.takeOver : Engine → Engine
  | .held r => .working r.takenOver
  | e => e

/-- The record of a computation is stored. -/
def Engine.store (r : Correction) : Engine → Engine
  | .noRecord => .working r
  | e => e

/-- The record becomes CLOSING when the LLU is told to release at the end of work. -/
def Engine.close : Engine → Engine
  | .working r => .closing r
  | e => e

/-- The record becomes CLOSING at the join-hold expiry. -/
def Engine.expire : Engine → Engine
  | .held r => .closing r
  | e => e

/-- The record that is in hand. -/
def Engine.record? : Engine → Option Correction
  | .noRecord => none
  | .working r => some r
  | .held r => some r
  | .closing r => some r

/-! ## Job state -/

def setPhase (p : Option Phase) (s : State) : State := s.setJob { s.job with phase := p }

/-- The position base becomes T (R31, R32, R40). -/
def baseToTarget (s : State) : State := s.setJob { s.job with base := s.travel.goal }

/-! ## Activation (R28, R29) -/

/-- The part of an activation with the LLU HOLDING: the held record is taken over and copied to the slot, the join-hold timer
stops, and an entry without used units passes at once to WORKING (R29). -/
def continueChain (k : Nat) (unused : Bool) (s : State) : State :=
  let engine := s.engine.takeOver
  let s1 := changeLlu (fun x => { x with joinHold := none }) (s.setEngine engine)
  let s2 := s1.setQueue (s1.queue.modify k fun y => { y with copy := engine.record?.or y.copy })
  setPhase (some (if unused then .working else .holding)) s2

/-- The part of any other activation: an OPEN LLU clears its reached mark, and positioning starts (R28, R146). -/
def positionEntry (s : State) : State :=
  startPositioning (setPhase (some .positioning)
    (if s.llu.state = .isOpen then changeLlu (fun x => { x with reached := false }) s else s))

/-- The target of an entry: the position base plus its distance, held at 4,000,000 mm (R28, R102). -/
def State.targetOf (s : State) (e : Entry) : Int := min (s.job.base + e.distance) 4000000

/-- The slot at place `k` becomes ACTIVE and its work starts (R28). The finish that a continuation without used units leads
to at once is `endOfWork`. -/
def activate (k : Nat) (s : State) : State :=
  match s.queue.slots[k]? with
  | none => s
  | some x =>
    let s1 := s.setQueue (s.queue.modify k fun y => { y with state := .active, kept := none })
    let s2 := s1.setTravel { s1.travel with target := some (s.targetOf x.entry) }
    let s3 := activateUnits x.entry.units s2
    let s4 := s3.setJob { s3.job with done := x.entry.units.map (·.mask == 0) }
    if s4.llu.state = .holding then continueChain k (x.entry.units.all (·.mask == 0)) s4
    else positionEntry s4

/-! ## The end of work and the finish tests (R31, R32) -/

/-- Test 1 of R32: the job is COMPLETED. -/
def completeJob (s : State) : State :=
  reportJob (positionerIdle
    (s.setJob { s.job with state := .idle, phase := none, pausePending := false, endReason := .completed }))

/-- Test 3 of R32: the pending pause takes effect. -/
def pauseAtFinish (s : State) : State :=
  reportJob (positionerIdle (s.setJob { s.job with state := .paused, phase := none, pausePending := false }))

/-- Test 5 of R32: the phase becomes STARVED. -/
def starve (s : State) : State := positionerIdle (setPhase (some .starved) s)

/-- Every unit counts as done for the active entry, the phase is WORKING, and the LLU is at demand (R31, R152). -/
def State.workEnded (s : State) : Bool :=
  s.job.state == .running && s.job.phase == some .working && s.job.done.all (fun d => d) && s.gateOpen

/-- The end of work of an entry with JOINED_NEXT: the LLU holds, the entry finishes at once without a residual, the record
becomes HELD and the join-hold timer starts (R31, R64, R153, R154). -/
def finishHeld (s : State) : State :=
  let s1 := finishActive s.workedFinal none false none (lluHold s)
  let s2 := baseToTarget (s1.setEngine s1.engine.hold)
  setPhase (some .holding) (changeLlu (fun x => { x with joinHold := some s.params.joinHold }) s2)

/-- The end of work of any other entry: the LLU is told to release (R31, R64). -/
def beginRelease (s : State) : State := setPhase (some .releasing) (lluRelease (s.setEngine s.engine.close))

/-- Job Control acts on the end of work when its condition holds (R31); after a held finish it makes tests 1 and 2 of R32, and a
continuation without used units ends its work in the same step, so the rule may act again, at most `n` times (DEDUCED, safe, log
entry 16). -/
def endOfWork : Nat → State → State
  | 0, s => s
  | n + 1, s =>
    if s.workEnded then
      match s.queue.activeSlot with
      | none => s
      | some x =>
        if x.entry.joinedNext then
          if x.entry.isEnd then completeJob (finishHeld s)
          else
            match (finishHeld s).queue.readyPos with
            | some k => endOfWork n (activate k (finishHeld s))
            | none => finishHeld s
        else beginRelease s
    else s

/-- More rounds than there are slots to activate (R4). -/
def workRounds : Nat := 65

/-- Job Control tests the end of work (R31). -/
def testEndOfWork (s : State) : State := endOfWork workRounds s

/-- A slot is activated, with what follows from it at once (R28, R31). -/
def activateSlot (k : Nat) (s : State) : State := testEndOfWork (activate k s)

/-- Tests 4 and 5 of R32: the oldest READY entry is activated, or the job starves. -/
def nextOrStarve (s : State) : State :=
  match s.queue.readyPos with
  | some k => activateSlot k s
  | none => starve s

/-- Tests 3 to 5 of R32. -/
def pauseOrNext (s : State) : State := if s.job.pausePending then pauseAtFinish s else nextOrStarve s

/-- The tests of R32 after the finish of an entry; SKIP ENTRY passes over test 2 (R32, R40). -/
def finishTests (skipped : Bool) (e : Entry) (s : State) : State :=
  if e.isEnd then completeJob s
  else if e.joinedNext && !skipped then
    match s.queue.readyPos with
    | some k => activateSlot k s
    | none => s
  else pauseOrNext s

/-! ## Retreat (R38) -/

/-- The retreat is complete: every unit is PARKED and the LLU OPEN. -/
def State.retreatComplete (s : State) : Bool := s.allParked && s.llu.state == .isOpen

/-- The retreat is stalled: no unit is RETREATING or opening for a retreat, the LLU is not releasing, and some unit or the
LLU is STUCK. -/
def State.retreatStalled (s : State) : Bool :=
  !s.units.any (fun x => x.state == .retreating || (x.state == .opening && x.retreat))
    && s.llu.state != .releasing
    && (s.units.any (·.state == .stuck) || s.llu.state == .stuck)

/-- Job Control clears the retreat mode when the retreat is complete or stalled (R38; DEDUCED, unsafe, log entry 18). -/
def endRetreat (s : State) : State :=
  if s.arb.retreatMode && (s.retreatComplete || s.retreatStalled) then
    arbiter (fun a => { a with retreatMode := false }) s
  else s

/-- What a change of a unit's or the LLU's state leads to in a retreat: the LLU releases when the last unit is PARKED (R159),
and the retreat mode ends when the retreat does (R38). -/
def followRetreat (s : State) : State := endRetreat (lluRetreatRelease s)

/-- The common retreat: the Positioner is IDLE with the drive STOP, the retreat mode set, and the units and then the LLU take the
retreat order (R38). -/
def commonRetreat (parkAll : Bool) (s : State) : State :=
  let s1 := arbiter (fun a => { a with retreatMode := true }) (positionerIdle s)
  followRetreat (lluRetreatOrder parkAll (retreatUnits parkAll s1))

/-! ## Faults and the halt (R25, R26, R37) -/

/-- The ACTIVE slot becomes FAULTED and keeps what its working reached (R37). -/
def State.faultActive (s : State) : State :=
  s.setQueue (s.queue.mapSlots fun x =>
    if x.state = .active then { x with state := .faulted, kept := some (s.reachedBy x) } else x)

/-- The index of the ACTIVE slot that a halt makes FAULTED, absent when there is none (R25). -/
def State.haltedSlot (s : State) : Option Nat := if s.queue.has .active then s.queue.activeIndex else none

/-- A halt, steps 1 to 6 (R37); the correction record is discarded (R64). -/
def halt (code : FaultCode) (source : FaultSource) (s : State) : State :=
  let s1 := s.faultActive.setJob
    { s.job with
      state := .halted, phase := none, pausePending := false
      halt := some ⟨code, source, s.haltedSlot, none⟩ }
  commonRetreat false (reportJob (s1.setEngine .noRecord))

/-- A further fault is recorded while the job is HALTED (R25, R26). -/
def recordFurther (code : FaultCode) (s : State) : State :=
  reportJob (s.setJob { s.job with halt := s.job.halt.map fun h => { h with further := some code } })

/-- A fault code reaches Job Control (R26). -/
def raiseFault (code : FaultCode) (source : FaultSource) (s : State) : State :=
  match s.job.state with
  | .running | .paused => halt code source s
  | .halted => recordFurther code s
  | .idle => s

/-! ## The events Job Control hears of -/

/-- The computation at the in-position event (R30, R47, R51): on success the record is WORKING and copied to the slot, the
demands and work orders go out, and the phase is WORKING; on failure the slot loses its copy and the job halts. -/
def inPosition (s : State) : State :=
  if s.job.state ≠ .running ∨ s.job.phase ≠ some .positioning then s
  else
    match s.queue.activePos, s.queue.activeSlot with
    | some k, some x =>
      match correctionInputs s.params s.meas.channels s.table s.trail x.entry s.travel.p with
      | .error code =>
        raiseFault code .computation
          (s.setQueue (s.queue.modify k fun y => { y with copy := none }))
      | .ok inputs =>
        let r := correctionOf s.params x.entry x.chainPos s.travel.p inputs
        let s1 := (s.setEngine (s.engine.store r)).setQueue (s.queue.modify k fun y => { y with copy := some r })
        workUnits (lluWork r.demands (setPhase (some .working) s1))
    | _, _ => s

/-- A unit reports done; the report is ignored in HALTED and IDLE (R31, R38). -/
def unitDone (u : UnitId) (s : State) : State :=
  match s.job.state with
  | .running | .paused => testEndOfWork (s.setJob { s.job with done := s.job.done.set u true })
  | .halted | .idle => s

/-- Every used unit of the active entry is SET; an unused unit counts as done (R29). -/
def State.unitsSet (s : State) : Bool :=
  UnitId.all.all fun u => s.job.done.get u || (s.unit u).state == .set

/-- A unit of a continuation has become SET: when every used unit is SET, the phase becomes WORKING and each used unit is told
to work (R29). -/
def unitSet (s : State) : State :=
  if s.job.state = .running ∧ s.job.phase = some .holding ∧ s.queue.has .active ∧ s.unitsSet then
    workUnits (setPhase (some .working) s)
  else s

/-- The residual of a join hold's release is written into the held entry's result (R34). -/
def writeHeldResidual (residual : Option (Int × Int)) (s : State) : State :=
  match s.queue.heldPos with
  | none => s
  | some k =>
    s.setQueue (s.queue.modify k fun y =>
      { y with result := y.result.map fun r => { r with residual := residual, residualMissing := residual.isNone } })

/-- The LLU reports OPEN at the end of a release, with the residual, or with none when it is missing (R32, R34). -/
def lluReportsOpen (residual : Option (Int × Int)) (s : State) : State :=
  if s.job.state = .running ∧ s.job.phase = some .releasing then
    match s.queue.activeSlot with
    | some x => finishTests false x.entry (baseToTarget (finishActive s.workedFinal residual residual.isNone none s))
    | none => pauseOrNext (writeHeldResidual residual s)
  else s

/-- The join-hold expiry as Job Control takes it: RELEASING with no active slot (R34). -/
def giveUpHold (s : State) : State := lluRelease (setPhase (some .releasing) (s.setEngine s.engine.expire))

/-- A READY entry has been loaded: it is activated in STARVED, and in HOLDING with no active entry (R33). -/
def entryLoaded (s : State) : State :=
  if s.job.state = .running ∧
      (s.job.phase = some .starved ∨ (s.job.phase = some .holding ∧ s.queue.activePos.isNone)) then
    match s.queue.readyPos with
    | some k => activateSlot k s
    | none => s
  else s

end Sys2Proof.Machine
end

