-- ==== Sys2Proof/Machine/SelfTest.lean ====
section
/-! DEFINITION. The Self-Test (chapter 11): the items of a run, their start, their judgement and the end of a test. -/

namespace Sys2Proof.Machine

/-- The items of a group (R189, R190). -/
def groupItems : Nat → List (Nat × Nat)
  | 1 => [(1, 1), (1, 2), (1, 3), (1, 4), (1, 5), (1, 6)]
  | 2 => [(2, 1), (2, 2), (2, 3), (2, 4), (2, 5), (2, 6), (2, 7), (2, 8), (2, 9)]
  | 3 => [(3, 1), (3, 2)]
  | _ => []

/-- The items of the run a request names, in order; no item when the request names no run (R187). -/
def runItems (group item : Nat) : List (Nat × Nat) :=
  if group = 0 then if item = 0 then groupItems 1 ++ groupItems 2 ++ groupItems 3 else []
  else if item = 0 then groupItems group
  else (groupItems group).filter (·.2 == item)

/-- The duration of an item, ms (R189, R190). -/
def itemTime : Nat → Nat
  | 1 => 400
  | 2 => 100
  | _ => 800

/-- The valve of a group 1 item (R189). -/
def valveOf : Nat → Valve
  | 1 => .lowering .lo
  | 2 => .lowering .li
  | 3 => .lowering .ri
  | 4 => .lowering .ro
  | 5 => .lluLift
  | _ => .branchHook

/-- The channel of a group 2 item (R189). -/
def testChannel : Nat → Channel
  | 1 => .line
  | 2 => .levelL
  | 3 => .levelR
  | 4 => .cant
  | 5 => .hook
  | 6 => .press .lo
  | 7 => .press .li
  | 8 => .press .ri
  | _ => .press .ro

/-- The test drive, per mille, and the band its read-back must lie in (R189). -/
def testDrive : Nat := 600

/-- What a group 3 item destroys at its start: the queue memory or the table memory (R190; the words written and read back are
DEDUCED to be the command MEMORY_MISMATCH's own, safe, log entry 27). -/
def destroyMemory (item : Nat) (s : State) : State :=
  if item = 1 then s.setQueue .cleared else s.setTable .empty

/-- An item becomes the item under test and starts: its timer runs, a valve item sends VALVE_TEST, a memory item destroys its
memory (R188, R189, R190). -/
def startItem (gi : Nat × Nat) (rest : List (Nat × Nat)) (s : State) : State :=
  let s1 := s.setTest
    { s.test with item := gi, rest := rest, timer := some (itemTime gi.1), readback := none, seenGood := false }
  if gi.1 = 1 then send (.valveTest (valveOf gi.2) testDrive) s1
  else if gi.1 = 3 then destroyMemory gi.2 s1
  else s1

/-- The test ends: the running flag is cleared, the timer stopped, and one TEST DONE report placed (R188). -/
def endTest (failure : Option FailureRecord) (s : State) : State :=
  let t := s.test
  place (.testDone (if failure.isNone then .pass else .fail) t.requested.1 t.requested.2 t.passed failure)
    (s.setTest { t with running := false, timer := none, failure := failure })

/-- A self-test item is running. -/
def SelfTest.inGroup (t : SelfTest) (group : Nat) : Bool := t.running && t.item.1 == group && t.timer.isSome

/-- The first-failure record of the item under test. -/
def SelfTest.failed (t : SelfTest) (code : TestFailure) (read expected : Nat) : FailureRecord :=
  ⟨t.item.1, t.item.2, code, read, expected⟩

/-- The judgement of the item under test at its expiry: `none` is a pass (R189, R190). -/
def SelfTest.verdict (t : SelfTest) : Option FailureRecord :=
  if t.item.1 = 1 then
    match t.readback with
    | none => some (t.failed .noReadback 0 600)
    | some p => if 570 ≤ p ∧ p ≤ 630 then none else some (t.failed .readback p 600)
  else if t.item.1 = 2 then if t.seenGood then none else some (t.failed .noSample 0 1)
  else none

/-- A valve item that ends withdraws its drive (R189, R191). The order names the valve under test: R189 does not say what VALVE_REST
carries (DESIGN CHOICE, unsafe, log entry 32). -/
def restValve (s : State) : State := if s.test.item.1 = 1 then send (.valveRest (valveOf s.test.item.2)) s else s

/-- The item under test is judged: the next item starts, or the test ends (R188). -/
def judgeItem (s : State) : State :=
  let s1 := restValve s
  match s.test.verdict with
  | some f => endTest (some f) s1
  | none =>
    let s2 := s1.setTest { s1.test with passed := s1.test.passed + 1 }
    match s2.test.rest with
    | [] => endTest none s2
    | gi :: rest => startItem gi rest s2

/-- The stop line is asserted while a test runs: the test ends with STOP_LINE (R191). -/
def stopTest (s : State) : State :=
  if s.test.running then endTest (some (s.test.failed .stopLine 0 0)) (restValve s) else s

/-- A sample reaches a group 2 item: a good value for its channel leaves the channel VALID with a held count of 0 (R189). -/
def testSample (s : State) : State :=
  if s.test.inGroup 2 then
    let x := s.meas.channels.get (testChannel s.test.item.2)
    s.setTest { s.test with seenGood := s.test.seenGood || (x.state == .valid && x.held == 0) }
  else s

end Sys2Proof.Machine
end

