-- ==== Sys2Proof/Machine/Take.lean ====
section
/-! DEFINITION. The take of a request (R179 to R181): the general tests, the owner's answer, and the reply; shared by the
meanings of the 23 requests and of an unknown kind. -/

namespace Sys2Proof.Machine

/-- What a command answers. -/
abbrev Outcome := Host.Outcome State Fault Refusal

/-- A REFUSED reply (R181). -/
def refuse (kind : Word) (reason : Reason) (detail : Nat) : Answer := .refused reason kind detail none

/-- The detail of TEST_RUNNING: the group under test times 256, plus the item (R180). -/
def SelfTest.detail (t : SelfTest) : Nat := t.item.1 * 256 + t.item.2

/-- The general tests 2 and 3 of a known kind (R180): `fits` tells that the body fits it, `reading` that it is one of the
seven reading requests. -/
def generalRefusal (f : Frame) (fits reading : Bool) (s : State) : Option Answer :=
  if !fits then some (refuse f.kind .badLength (bodyLength f.body))
  else if s.test.running && !reading then some (refuse f.kind .testRunning s.test.detail)
  else none

/-- The reply joins the reply list, and is sent when the line is free (R179, R182). -/
def answer (f : Frame) (a : Answer) (s : State) : State := startSending (s.setLink (s.link.reply f a))

/-- The link takes a request frame when it may (R179): it leaves the buffer, the general tests are made, then the owner's
tests and effects, and the reply is formed. A request that may not be taken is not taken: it cannot come
then, and changes nothing (DESIGN CHOICE, safe, log entry 5). -/
def takeRequest (f : Frame) (fits reading : Bool) (owner : State → State × Answer) (s : State) : State :=
  if s.link.mayTake f then
    let s1 := s.setLink s.link.taken
    match generalRefusal f fits reading s1 with
    | some a => answer f a s1
    | none => answer f (owner s1).2 (owner s1).1
  else s

/-- A request that changes nothing: its owner only answers. -/
def readRequest (f : Frame) (fits : Bool) (a : State → Answer) (s : State) : State :=
  takeRequest f fits true (fun t => (t, a t)) s

/-- A body with no field of its own (R194). -/
def noFields (body : List Byte) : Bool := body.isEmpty

/-- The job is not in the state a request needs: WRONG_STATE, with the job state as detail. -/
def wrongState (kind : Word) (s : State) : Answer := refuse kind .wrongState (jobCode s.job.state)

/-- The job is not in the state SKIP ENTRY, ABORT JOB or PARK ALL needs: their rules name WRONG_STATE without a detail, and the
detail is then 0 (R40, R41, R42, R181; DEDUCED, unsafe, log entry 35). -/
def wrongStateBare (kind : Word) : Answer := refuse kind .wrongState 0

end Sys2Proof.Machine
end

