-- ==== Sys2Proof/Machine/JobRequests.lean ====
section
/-! DEFINITION. The meanings of the requests of Job Control that change the job: SET PARAMETERS, START JOB, PAUSE JOB, RESUME
JOB, RETRY ENTRY, SKIP ENTRY, ABORT JOB and PARK ALL. -/

namespace Sys2Proof.Machine

/-- SET PARAMETERS as its owner takes it (R43): the grant-slot count goes to the arbiter when the request carries it. -/
def parametersOwner (body : List Byte) (s : State) : State × Answer :=
  if s.job.state ≠ .idle then (s, wrongState 0x0003 s)
  else
    let p := s.params.update body
    let s1 := s.setParams p
    (if bit (paramMask body) 20 then arbiter (Arbiter.setSlots p.grantSlots) s1 else s1,
      .parametersSet (clampedRows body))

/-- SET PARAMETERS (R43). -/
def execSetParameters (tag : Word) (body : List Byte) (s : State) : Outcome :=
  .next (takeRequest ⟨0x0003, tag, body⟩ (paramsFit body) false (parametersOwner body) s)

/-- START JOB, once its tests have passed: everything up to the activation (R27). -/
def prepareJob (s : State) : State :=
  let s1 := s.setTravel { s.travel with p := 0 }
  let s2 := s1.setTrail ⟨[], 0⟩
  s2.setJob { s2.job with state := .running, base := 0, halt := none, pausePending := false, endReason := .none }

/-- START JOB as its owner takes it (R27). -/
def startOwner (s : State) : State × Answer :=
  if s.job.state ≠ .idle then (s, wrongState 0x0009 s)
  else
    match s.queue.readyPos with
    | none => (s, refuse 0x0009 .empty 0)
    | some k =>
      match s.notParked with
      | some detail => (s, refuse 0x0009 .notParked detail)
      | none =>
        if s.params.mode = .design ∧ s.table.state ≠ .valid then
          (s, refuse 0x0009 .noTable (tableCode s.table.state))
        else (issueDrive (reportJob (activateSlot k (prepareJob s))), .started (s.queue.index k))

/-- START JOB (R27). -/
def execStartJob (tag : Word) (body : List Byte) (s : State) : Outcome :=
  .next (takeRequest ⟨0x0009, tag, body⟩ (noFields body) false startOwner s)

/-- The pause takes effect at once: the phase is kept and the Positioner made IDLE (R35). -/
def pauseNow (s : State) : State := reportJob (positionerIdle (s.setJob { s.job with state := .paused }))

/-- PAUSE JOB as its owner takes it (R35). -/
def pauseOwner (s : State) : State × Answer :=
  if s.job.state ≠ .running then (s, wrongState 0x000A s)
  else if s.job.phase = some .positioning ∨ s.job.phase = some .starved then
    (pauseNow s, .paused s.job.phase)
  else (s.setJob { s.job with pausePending := true }, .paused s.job.phase)

/-- PAUSE JOB (R35). -/
def execPauseJob (tag : Word) (body : List Byte) (s : State) : Outcome :=
  .next (takeRequest ⟨0x000A, tag, body⟩ (noFields body) false pauseOwner s)

/-- What the phase decides at a RESUME JOB (R36). -/
def resumePhase (s : State) : State :=
  match s.job.phase with
  | some .positioning => startPositioning s
  | some .starved =>
    match s.queue.readyPos with
    | some k => activateSlot k s
    | none => s
  | none => nextOrStarve s
  | some .working | some .releasing | some .holding => s

/-- RESUME JOB as its owner takes it (R36); its JOB STATE report shows the phase that results (DESIGN CHOICE, unsafe, log entry
13). -/
def resumeOwner (s : State) : State × Answer :=
  if s.job.state ≠ .paused then (s, wrongState 0x000B s)
  else (issueDrive (reportJob (resumePhase (s.setJob { s.job with state := .running }))), .accepted)

/-- RESUME JOB (R36). -/
def execResumeJob (tag : Word) (body : List Byte) (s : State) : Outcome :=
  .next (takeRequest ⟨0x000B, tag, body⟩ (noFields body) false resumeOwner s)

/-- The job leaves HALTED: it is RUNNING, and the retreat mode is cleared (R39, R40, R165). -/
def leaveHalt (s : State) : State :=
  arbiter (fun a => { a with retreatMode := false }) (s.setJob { s.job with state := .running })

/-- The place and record of the FAULTED slot (R39). -/
def State.faultedSlot (s : State) : Option (Nat × Slot) :=
  match s.queue.activePos, s.queue.activeSlot with
  | some k, some x => if x.state = .faulted then some (k, x) else none
  | _, _ => none

/-- RETRY ENTRY as its owner takes it (R39); its JOB STATE report is placed after the activation and shows POSITIONING (DESIGN
CHOICE, unsafe, log entry 13). -/
def retryOwner (s : State) : State × Answer :=
  if s.job.state ≠ .halted then (s, wrongState 0x000C s)
  else
    match s.faultedSlot with
    | none => (s, wrongState 0x000C s)
    | some (k, x) =>
      match s.notParked with
      | some detail => (s, refuse 0x000C .notParked detail)
      | none =>
        if 3 ≤ x.retries then (s, refuse 0x000C .retryLimit x.retries)
        else
          let s1 := s.setQueue (s.queue.modify k fun y => { y with retries := y.retries + 1 })
          (issueDrive (reportJob (activateSlot k (leaveHalt s1))), .accepted)

/-- RETRY ENTRY (R39). -/
def execRetryEntry (tag : Word) (body : List Byte) (s : State) : Outcome :=
  .next (takeRequest ⟨0x000C, tag, body⟩ (noFields body) false retryOwner s)

/-- The trail record of a skipped entry: at the slot copy's C with the residual formed, or without one; at T when the entry
has no correction (R40, R96). -/
def skipRecord (s : State) (copy : Option Correction) (residual : Option (Int × Int)) : TrailRecord :=
  ⟨(copy.map (·.c)).getD s.travel.goal, residual.map (·.1), residual.map (·.2)⟩

/-- The FAULTED entry is given up: its residual is formed from the channels' current values, the trail record appended, and the
entry finishes SKIPPED (R40). -/
def skipFaulted (x : Slot) (s : State) : State :=
  let residual := x.copy.bind fun r => residualOf r s.meas.channels
  let s1 := s.setTrail (s.trail.append (skipRecord s x.copy residual))
  baseToTarget (finishActive .skipped residual residual.isNone (s.job.halt.map (·.first)) s1)

/-- SKIP ENTRY as its owner takes it (R40; the detail of its WRONG_STATE: DEDUCED, unsafe, log entry 35). With no slot FAULTED
its JOB STATE report is placed before tests 4 and 5 of R32, so it shows the phase absent and no active slot (DESIGN CHOICE,
unsafe, log entry 13); with one, R40 itself places the report before the tests. -/
def skipOwner (s : State) : State × Answer :=
  if s.job.state ≠ .halted then (s, wrongStateBare 0x000D)
  else
    match s.notParked with
    | some detail => (s, refuse 0x000D .notParked detail)
    | none =>
      match s.faultedSlot with
      | some (_, x) => (issueDrive (finishTests true x.entry (reportJob (leaveHalt (skipFaulted x s)))), .accepted)
      | none => (issueDrive (nextOrStarve (reportJob (leaveHalt s))), .accepted)

/-- SKIP ENTRY (R40). -/
def execSkipEntry (tag : Word) (body : List Byte) (s : State) : Outcome :=
  .next (takeRequest ⟨0x000D, tag, body⟩ (noFields body) false skipOwner s)

/-- The fault code of an entry aborted from FAULTED; an entry aborted from ACTIVE has none (R18). -/
def State.abortFault (s : State) : Option FaultCode :=
  match s.faultedSlot with
  | some _ => s.job.halt.map (·.first)
  | none => none

/-- ABORT JOB, once it is accepted (R41); the correction record is discarded (R64). In HALTED the retreat is ordered again
(DEDUCED, unsafe, log entry 28). -/
def abortJob (s : State) : State :=
  let s1 := finishActive .aborted none false s.abortFault s
  let s2 := s1.setQueue { s1.queue with slots := abortReady s1.queue.oldest s1.queue.slots }
  let s3 := s2.setJob { s2.job with state := .idle, phase := none, pausePending := false, endReason := .aborted }
  commonRetreat false (reportJob (s3.setEngine .noRecord))

/-- ABORT JOB as its owner takes it (R41; the detail of its WRONG_STATE: DEDUCED, unsafe, log entry 35). -/
def abortOwner (s : State) : State × Answer :=
  if s.job.state = .idle then (s, wrongStateBare 0x000E) else (abortJob s, .accepted)

/-- ABORT JOB (R41). -/
def execAbortJob (tag : Word) (body : List Byte) (s : State) : Outcome :=
  .next (takeRequest ⟨0x000E, tag, body⟩ (noFields body) false abortOwner s)

/-- PARK ALL as its owner takes it (R42; the detail of its WRONG_STATE: DEDUCED, unsafe, log entry 35). -/
def parkAllOwner (s : State) : State × Answer :=
  if s.job.state = .idle ∨ s.job.state = .halted then (commonRetreat true s, .accepted)
  else (s, wrongStateBare 0x000F)

/-- PARK ALL (R42). -/
def execParkAll (tag : Word) (body : List Byte) (s : State) : Outcome :=
  .next (takeRequest ⟨0x000F, tag, body⟩ (noFields body) false parkAllOwner s)

end Sys2Proof.Machine
end

