-- ==== Sys2Proof/Machine/LinkEvents.lean ====
section
/-! DEFINITION. The meanings of the events of the line: BYTE_RECEIVED, FRAME_RECEIVED, INTER_BYTE_TIMEOUT and FRAME_SENT. -/

namespace Sys2Proof.Machine

/-- BYTE_RECEIVED: the receiver takes one byte by its state (R176). A byte that ends a frame has it judged as well (R178, DESIGN
CHOICE, safe, log entry 19). -/
def execByteReceived (b : Byte) (s : State) : Outcome := .next (startSending (s.setLink (s.link.receive b)))

/-- The receiver waits for the last check byte of a frame (R176). -/
def Receiver.endsNext : Receiver → Bool
  | .checkSecond _ _ => true
  | .hunt | .lengthFirst | .lengthSecond _ | .body _ _ | .checkFirst _ => false

/-- FRAME_RECEIVED: the last check byte arrives, the check is judged, and the frame is buffered, refused LINK_BUSY, dropped or
discarded (R178). A byte before the last is no end of a frame, and changes nothing here (DESIGN CHOICE, safe, log entry 4). -/
def execFrameReceived (b : Byte) (s : State) : Outcome :=
  .next (if s.link.receiver.endsNext then startSending (s.setLink (s.link.receive b)) else s)

/-- INTER_BYTE_TIMEOUT: the frame under reception is discarded (R177). -/
def execInterByteTimeout (s : State) : Outcome := .next (s.setLink s.link.gapExpired)

/-- FRAME_SENT: the last byte of the frame on the line has been sent, a reply leaves the reply list, and the next frame begins
(R182). -/
def execFrameSent (s : State) : Outcome := .next (startSending (s.setLink s.link.sent))

end Sys2Proof.Machine
end

