-- ==== Sys2Proof/Machine/LluEvents.lean ====
section
/-! DEFINITION. The meanings of the events of the LLU (chapter 8): the grant, the three completions, and the expiries of its
timers. A completion is taken when its kind and number are those of the outstanding order (R145); an event the LLU's state does
not take leaves it as it stands (R161). -/

namespace Sys2Proof.Machine

/-- An event of the LLU ends: the retreat is followed up (R38, R159), the drive order issued, and the line goes on. -/
def lluEvent (s : State) : State := conclude (followRetreat s)

/-! ## The grant -/

/-- CLAMP is ordered, with the hook on the demanded side when the demands carry a hook lift (R146). -/
def startClamp (s : State) : State :=
  let hook := s.llu.demanded.hook
  orderLlu (.clamp (hook.map (·.2))) clampTime
    (changeLlu (fun x => { x with waiting := false, clampsClosed := true, hookEngaged := hook.isSome }) s)

/-- UNCLAMP is ordered (R155, R159). -/
def startUnclamp (s : State) : State := orderLlu .unclamp clampTime (changeLlu (fun x => { x with waiting := false }) s)

/-- The grant reaches the LLU: a waiting LLU that holds it clamps or unclamps (R146, R155). An LLU that waits for nothing and has
no motion under way gives it back at once (R161, DEDUCED, safe, log entry 21). -/
def takeLluGrant (s : State) : State :=
  if s.llu.waiting then
    if s.arb.granted.contains .llu then
      match s.llu.state with
      | .clamping => startClamp s
      | .releasing => startUnclamp s
      | .unhomed | .isOpen | .lifting | .atDemand | .holding | .settling | .held | .stuck => s
    else s
  else if s.llu.order.isSome then s
  else releaseLluGrant s

/-- LLU_GRANT (R146, R155). -/
def execLluGrant (s : State) : Outcome := .next (lluEvent (takeLluGrant s))

/-! ## Completions -/

/-- The achieved values at the moment of clamping: 0 on every axis (R147). -/
def achievedZero (hook : Bool) : Achieved := ⟨0, 0, 0, if hook then some 0 else none⟩

/-- The lift begins: the baseline is recorded, LIFT_LINE is ordered, and the grant is kept (R147). -/
def startLift (s : State) : State :=
  let s1 := changeLlu (fun x =>
    { x with
      state := .lifting
      baseline := some (baselineOf s.meas.channels s.params.grade x.hookEngaged)
      achieved := some (achievedZero x.hookEngaged) }) s
  orderLlu s1.llu.liftOrder s.params.liftTime s1

/-- The clamps are closed: the lift begins, or a LOST channel stops it (R147). -/
def clampDone (s : State) : State :=
  let s1 := endLluOrder s
  if s1.baselineLost then raiseFault .sensorLost .llu (releaseLluGrant s1) else startLift s1

/-- CLAMPED (R147). -/
def execClamped (number : Nat) (s : State) : Outcome :=
  .next (if s.llu.state = .clamping ∧ s.llu.awaits LluOrder.isClamp number then lluEvent (clampDone s) else s)

/-- FORCE_LIMIT: the lifting ends with LINE_FORCE at the values of the last sample (R150). -/
def execForceLimit (number : Nat) (s : State) : Outcome :=
  .next (if s.llu.state = .lifting ∧ s.llu.awaits LluOrder.isLift number then
      lluEvent (testEndOfWork (reachDemand (changeLlu (fun x => { x with lineForce := true }) s)))
    else s)

/-- The clamps are open: the LLU settles, or under a retreat it is OPEN (R155, R159). -/
def unclampDone (s : State) : State :=
  let s1 := changeLlu (fun x => { x with clampsClosed := false, hookEngaged := false }) (releaseLluGrant (endLluOrder s))
  if s.llu.retreat then openUnderRetreat s1
  else changeLlu (fun x => { x with state := .settling, settle := some s.params.settleTime }) s1

/-- UNCLAMPED (R155, R159). -/
def execUnclamped (number : Nat) (s : State) : Outcome :=
  .next (if s.llu.state = .releasing ∧ s.llu.awaits (· == .unclamp) number then lluEvent (unclampDone s) else s)

/-! ## Expiries -/

/-- The motion timer runs in the state given. -/
def Llu.timed (x : Llu) (st : LluState) : Bool := x.state == st && x.timer.isSome

/-- The clamps have not closed or opened in their time: the LLU is STUCK with its clamps-closed mark set, and hands CLAMP_FAILED
over (R146, R155, R159, DEDUCED, unsafe, log entry 24). -/
def clampFailed (s : State) : State :=
  raiseFault .clampFailed .llu
    (changeLlu (fun x => { x with state := .stuck, clampsClosed := true, retreat := false }) (releaseLluGrant (cancelLlu s)))

/-- CLAMP_TIMEOUT (R146). -/
def execClampTimeout (s : State) : Outcome :=
  .next (if s.llu.timed .clamping then lluEvent (clampFailed s) else s)

/-- UNCLAMP_TIMEOUT (R155, R159). -/
def execUnclampTimeout (s : State) : Outcome :=
  .next (if s.llu.timed .releasing then lluEvent (clampFailed s) else s)

/-- LIFT_TIMER_EXPIRY: the lifting ends with LIFT_SHORT at the values of the last sample (R150). -/
def execLiftTimerExpiry (s : State) : Outcome :=
  .next (if s.llu.timed .lifting then
      lluEvent (testEndOfWork (reachDemand (changeLlu (fun x => { x with liftShort := true }) s)))
    else s)

/-- JOIN_HOLD_EXPIRY: the hold is given up (R34, R154). -/
def execJoinHoldExpiry (s : State) : Outcome :=
  .next (if s.llu.state = .holding ∧ s.llu.joinHold.isSome then lluEvent (giveUpHold s) else s)

/-- LLU_SETTLE_EXPIRY: the measurement count becomes 0 and the next samples are offered (R156). -/
def execLluSettleExpiry (s : State) : Outcome :=
  .next (if s.llu.state = .settling ∧ s.llu.settle.isSome then
      changeLlu (fun x => { x with settle := none, count := 0 }) s
    else s)

end Sys2Proof.Machine
end

