-- ==== Sys2Proof/Machine/MeasureEvents.lean ====
section
/-! DEFINITION. The meanings of SAMPLE_ARRIVAL and SAMPLE_TIMER_EXPIRY: what a sample does to the channels, to the LLU, and to
the self-test (R84 to R88). -/

namespace Sys2Proof.Machine

/-- The time without a sample after which a missed one is taken, ms (R85). -/
def sampleTime : Nat := 20

/-- A channel the LLU lifts by became LOST with this sample (R151): HOOK counts when the demands carry a hook lift. -/
def State.lostChannel (before : Channels ChannelRec) (s : State) : Bool :=
  (liftChannels s.params.grade s.llu.demanded.hook.isSome).any (newlyLost before s.meas.channels)

/-- SENSOR_LOST at the LLU: it gives up its motion and keeps its state (R151). -/
def lluSensorLost (s : State) : State := raiseFault .sensorLost .llu (leaveLluMotion s)

/-- A sample in LIFTING: the achieved values are formed, and on arrival the LLU is at demand (R148, R149). -/
def liftSample (s : State) : State :=
  if s.hasArrived then testEndOfWork (reachDemand (formAchieved s)) else formAchieved s

/-- The residual is formed or found missing: the record is used up, the trail record appended, and the LLU opens and reports
(R157, steps 1 to 4). -/
def endMeasurement (r : Correction) (residual : Option (Int × Int)) (s : State) : State :=
  let s1 := (s.setEngine .noRecord).setTrail (s.trail.append ⟨r.c, residual.map (·.1), residual.map (·.2)⟩)
  lluReportsOpen residual (changeLlu (fun x => { x with state := .isOpen }) s1)

/-- The samples found unusable after which the residual is missing (R157). -/
def unusableLimit : Nat := 5

/-- A sample offered for the residual (R156, R157). -/
def settleSample (s : State) : State :=
  match s.engine with
  | .closing r =>
    match residualOf r s.meas.channels with
    | some res => endMeasurement r (some res) s
    | none =>
      let s1 := changeLlu (fun x => { x with count := x.count + 1 }) s
      if s1.llu.count < unusableLimit then s1 else endMeasurement r none s1
  | .noRecord | .working _ | .held _ => s

/-- The sample reaches the LLU (R88). In CLAMPING and LIFTING it is tested for loss; in LIFTING, with no fault raised, it forms
the achieved values, and the arrival test follows (R148, R149, R151). The retreat mark takes away the fault and the arrival test,
and the values are still formed (R90, R158). After the settle time the sample is offered for the residual (R157). -/
def lluSample (before : Channels ChannelRec) (s : State) : State :=
  match s.llu.state with
  | .clamping =>
    if s.llu.retreat then s else if s.lostChannel before then lluSensorLost s else s
  | .lifting =>
    if s.llu.retreat then formAchieved s else if s.lostChannel before then lluSensorLost s else liftSample s
  | .settling => if s.llu.settle.isSome then s else settleSample s
  | .unhomed | .isOpen | .atDemand | .holding | .releasing | .held | .stuck => s

/-- The Measurement Input takes a sample: the nine channels are updated and the sample timer starts again (R85, R86). -/
def updateChannels (sample : Channels Reading) (s : State) : State :=
  s.setMeas ⟨takeSample s.meas.channels sample, some sampleTime⟩

/-- A sample is taken: the channels are updated, and it is handed to the LLU and to the self-test (R88). -/
def takeSampleStep (sample : Channels Reading) (s : State) : State :=
  conclude (followRetreat (testSample (lluSample s.meas.channels (updateChannels sample s))))

/-- SAMPLE_ARRIVAL (R84, R86). -/
def execSampleArrival (sample : Channels Reading) (s : State) : Outcome := .next (takeSampleStep sample s)

/-- SAMPLE_TIMER_EXPIRY: a missed sample is taken as one bad on all nine channels (R85). -/
def execSampleTimerExpiry (s : State) : Outcome :=
  .next (if s.meas.timer.isSome then takeSampleStep missedSample s else s)

end Sys2Proof.Machine
end

