-- ==== Sys2Proof/Machine/QueueRequests.lean ====
section
/-! DEFINITION. The meanings of the requests of the Work Queue that change it: LOAD ENTRY, COLLECT RESULTS and CLEAR QUEUE. -/

namespace Sys2Proof.Machine

/-- LOAD ENTRY as its owner takes it (R8): a refused load changes nothing; an accepted one stores the clamped entry as READY,
and Job Control may activate it at once (R13, R33). -/
def loadOwner (body : List Byte) (s : State) : State × Answer :=
  let e := decodeEntry body
  match s.queue.loadRefusal e with
  | some (reason, detail, relation) => (s, .refused reason 0x0005 detail relation)
  | none =>
    (issueDrive (entryLoaded (s.setQueue (s.queue.load (clampEntry e)))),
      .loaded s.queue.tail s.queue.nextChainPos (clampedCodes e))

/-- LOAD ENTRY (R8). -/
def execLoadEntry (tag : Word) (body : List Byte) (s : State) : Outcome :=
  .next (takeRequest ⟨0x0005, tag, body⟩ (loadFits body) false (loadOwner body) s)

/-- The release after a join-hold expiry is under way, and the held entry's slot is not collected (R19, R34). -/
def State.heldUnderRelease (s : State) : Bool :=
  s.job.state == .running && s.job.phase == some .releasing && s.queue.activePos.isNone

/-- COLLECT RESULTS as its owner takes it (R19). -/
def collectOwner (s : State) : State × Answer :=
  let held := s.heldUnderRelease
  let after := s.queue.afterCollect held
  (s.setQueue after, .collected ((s.queue.collected held).filterMap (·.result)) (takesFront held after.slots))

/-- COLLECT RESULTS (R19). -/
def execCollectResults (tag : Word) (body : List Byte) (s : State) : Outcome :=
  .next (takeRequest ⟨0x0006, tag, body⟩ (noFields body) false collectOwner s)

/-- CLEAR QUEUE as its owner takes it (R21). -/
def clearOwner (s : State) : State × Answer :=
  if s.job.state ≠ .idle then (s, wrongState 0x0008 s)
  else (s.setQueue .cleared, .cleared s.queue.slots.length)

/-- CLEAR QUEUE (R21). -/
def execClearQueue (tag : Word) (body : List Byte) (s : State) : Outcome :=
  .next (takeRequest ⟨0x0008, tag, body⟩ (noFields body) false clearOwner s)

end Sys2Proof.Machine
end

