-- ==== Sys2Proof/Config.lean ====
section
/-! DEFINITION. What one TL-440 module fixes and the manual leaves open. -/

namespace Sys2Proof.Config

/-- FREE VALUE (DESIGN CHOICE, safe, log entry 14). The place in the alphabet, from 0, of the hardware revision that IDENTIFY
reports. R192 says only that it is "one capital letter, A to Z", the same at every request for one module. Safe: nothing
constrains it. -/
opaque hardwareRevision : Fin 26

end Sys2Proof.Config
end

