-- ==== Sys2Proof/Machine/ReadRequests.lean ====
section
/-! DEFINITION. The meanings of the seven reading requests, which change nothing: IDENTIFY, READ STATUS, READ PARAMETERS, READ
QUEUE, READ TABLE, READ MEASUREMENT and READ TRAIL. -/

namespace Sys2Proof.Machine

/-- What IDENTIFY reports (R192); the name is the six characters TL-440, and the revision letter is a free value. -/
def identity : Identity :=
  { vendor := 0x0E21, name := [0x54, 0x4C, 0x2D, 0x34, 0x34, 0x30]
    revision := BitVec.ofNat 8 (65 + Config.hardwareRevision.val)
    slots := 64, segments := 128, trail := 32, units := 4, chain := 3 }

/-- IDENTIFY (R192). -/
def execIdentify (tag : Word) (body : List Byte) (s : State) : Outcome :=
  .next (readRequest ⟨0x0001, tag, body⟩ (noFields body) (fun _ => .identity identity) s)

/-- What READ STATUS reports (R184). -/
def State.statusReport (s : State) : StatusReport :=
  { job := s.jobStatus
    p := s.travel.p, target := s.travel.target, pos := s.travel.state, drive := s.travel.drive
    reversals := s.travel.reversals
    units := s.units.map fun x => (x.state, x.waiting)
    lluState := s.llu.state, lluWaiting := s.llu.waiting, lluRetreat := s.llu.retreat, gateOpen := s.gateOpen
    table := s.table.state
    granted := s.arb.granted, waiting := s.arb.waiting, slots := s.arb.slots, retreatMode := s.arb.retreatMode
    stopLine := s.field.stopLine
    test := if s.test.running then some s.test.item else none
    framesWaiting := s.link.input.length, reports := s.link.reports.length, lost := s.link.lost
    dropped := s.link.dropped }

/-- READ STATUS (R184). -/
def execReadStatus (tag : Word) (body : List Byte) (s : State) : Outcome :=
  .next (readRequest ⟨0x0002, tag, body⟩ (noFields body) (fun t => .status t.statusReport) s)

/-- READ PARAMETERS (R44). -/
def execReadParameters (tag : Word) (body : List Byte) (s : State) : Outcome :=
  .next (readRequest ⟨0x0004, tag, body⟩ (noFields body) (fun t => .parameters t.params.values) s)

/-- READ QUEUE (R20). -/
def execReadQueue (tag : Word) (body : List Byte) (s : State) : Outcome :=
  .next (readRequest ⟨0x0007, tag, body⟩ (noFields body) (fun t => .queue t.queue.report) s)

/-- READ TABLE (R79). -/
def execReadTable (tag : Word) (body : List Byte) (s : State) : Outcome :=
  .next (readRequest ⟨0x0013, tag, body⟩ (body.length == 1) (fun t => .table (t.table.report (byteAt body 4))) s)

/-- READ MEASUREMENT (R93). -/
def execReadMeasurement (tag : Word) (body : List Byte) (s : State) : Outcome :=
  .next (readRequest ⟨0x0014, tag, body⟩ (noFields body) (fun t => .measurement t.meas.channels t.travel.p) s)

/-- READ TRAIL (R98). -/
def execReadTrail (tag : Word) (body : List Byte) (s : State) : Outcome :=
  .next (readRequest ⟨0x0015, tag, body⟩ (body.length == 1)
    (fun t => .trail t.trail.records.length t.trail.count (t.trail.page (byteAt body 4))) s)

end Sys2Proof.Machine
end

