-- ==== Sys2Proof/Machine/StopLine.lean ====
section
/-! DEFINITION. The meanings of STOP_LINE_ASSERTION and STOP_LINE_RELEASE: each block's own reaction, in the order of log entry
7 (DESIGN CHOICE, unsafe). -/

namespace Sys2Proof.Machine

def setStopLine (b : Bool) (s : State) : State := s.setField { s.field with stopLine := b }

/-- The assertion as every block takes it: the Positioner becomes IDLE with the drive STOP (R105, R115), the arbiter clears its
grants and requests (R170), the units and the LLU become HELD (R138, R160), a running test ends (R191), and Job Control takes the
fault STOP_LINE (R26). -/
def assertStopLine (s : State) : State :=
  raiseFault .stopLine .stopLine
    (stopTest (lluStop (holdUnits (arbiter Arbiter.stop (positionerIdle (setStopLine true s))))))

/-- STOP_LINE_ASSERTION (R138). A line that is asserted already is not asserted again (DESIGN CHOICE, safe, log entry 4). -/
def execStopLineAssertion (s : State) : Outcome :=
  .next (if s.field.stopLine then s else conclude (followRetreat (assertStopLine s)))

/-- The release as every block takes it: the arbiter grants again (R170), and the HELD units and the LLU go on with the retreat
(R139, R160). -/
def releaseStopLine (s : State) : State :=
  lluStopReleased (resumeUnits (arbiter Arbiter.stopReleased (setStopLine false s)))

/-- STOP_LINE_RELEASE (R139). -/
def execStopLineRelease (s : State) : Outcome :=
  .next (if s.field.stopLine then conclude (followRetreat (releaseStopLine s)) else s)

end Sys2Proof.Machine
end

