-- ==== Sys2Proof/Machine/SystemRequests.lean ====
section
/-! DEFINITION. The meanings of SELF TEST, RESTART and of a request of unknown kind, and of the two resets: POWER_ON and
RESTART_EFFECT. -/

namespace Sys2Proof.Machine

/-- SELF TEST as its owner takes it (R187). -/
def selfTestOwner (body : List Byte) (s : State) : State × Answer :=
  let group := byteAt body 4
  let item := byteAt body 5
  if s.job.state ≠ .idle then (s, wrongState 0x0016 s)
  else
    match runItems group item with
    | [] => (s, refuse 0x0016 .wrongState (group * 256 + item))
    | first :: rest =>
      match s.notParked with
      | some detail => (s, refuse 0x0016 .notParked detail)
      | none =>
        let s1 := s.setTest { s.test with running := true, requested := (group, item), passed := 0, failure := none }
        (startItem first rest s1, .testStarted (rest.length + 1))

/-- SELF TEST (R187). -/
def execSelfTest (tag : Word) (body : List Byte) (s : State) : Outcome :=
  .next (takeRequest ⟨0x0016, tag, body⟩ (body.length == 2) false (selfTestOwner body) s)

/-- RESTART as its owner takes it (R185). -/
def restartOwner (s : State) : State × Answer :=
  if s.job.state ≠ .idle then (s, wrongState 0x0017 s)
  else (s.setLink { s.link with restartPending := true }, .accepted)

/-- RESTART (R185). -/
def execRestart (tag : Word) (body : List Byte) (s : State) : Outcome :=
  .next (takeRequest ⟨0x0017, tag, body⟩ (noFields body) false restartOwner s)

/-- The kind is one of the 23 request kinds (R180, section 10.8). -/
def knownKind (kind : Word) : Bool := decide (1 ≤ kind.toNat) && decide (kind.toNat ≤ 0x17)

/-- UNKNOWN_KIND_REQUEST: a taken frame whose kind is none of the 23 is refused BAD_KIND (R180). With one of the 23 kinds it
is no such frame, and nothing is taken (DESIGN CHOICE, safe, log entry 4). -/
def execUnknownKindRequest (kind tag : Word) (body : List Byte) (s : State) : Outcome :=
  .next (if !knownKind kind && s.link.mayTake ⟨kind, tag, body⟩ then
      answer ⟨kind, tag, body⟩ (refuse kind .badKind kind.toNat) (s.setLink s.link.taken)
    else s)

/-- The link at power-on, before its first report (R173). -/
def Link.bare : Link :=
  { receiver := .hunt, byteTimer := none, input := [], replies := [], reports := [], lost := false, dropped := 0
    restartPending := false, line := none }

/-- POWER_ON: every block takes its initial state, the park and clamps-open indications and the stop line are read, and the
first JOB STATE report is placed and begins to be sent (R173, and each block's own rule for power-on). -/
def execPowerOn (park : Quad Bool) (clampsOpen stopLine : Bool) (s : State) : Outcome :=
  .next (startSending (reportJob
    { link := .bare
      queue := .cleared
      job := .atPowerOn
      params := .default
      engine := .noRecord
      table := .empty
      meas := .initial
      trail := ⟨[], 0⟩
      travel := .initial
      units := park.map .atPowerOn
      llu := .atPowerOn clampsOpen
      arb := .atPowerOn stopLine
      test := .idle
      field := ⟨stopLine, []⟩
      pending := s.pending }))

/-- The restart as the blocks other than the link take it (its moment: DEDUCED, safe, log entry 23), the arbiter before the units
and the LLU that place their requests again (R186, step 6). -/
def restartBlocks (s : State) : State :=
  let s1 := { s with
    queue := .cleared, job := { Job.atPowerOn with endReason := .restart }, engine := .noRecord
    table := s.table.restarted, meas := .initial, trail := ⟨[], 0⟩
    travel := { Travel.initial with drive := s.travel.drive }
    arb := s.arb.restarted s.params.grantSlots, test := .idle }
  restartLlu (restartUnits s1)

/-- RESTART_EFFECT: once the RESTART reply has been sent, the link is emptied, every block takes the restart, and the JOB STATE
report is placed (R186). Before that the restart does not take effect. -/
def execRestartEffect (s : State) : Outcome :=
  .next (if s.link.restartDue then conclude (reportJob (restartBlocks (s.setLink s.link.restarted))) else s)

end Sys2Proof.Machine
end

