-- ==== Sys2Proof/Machine/TableRequests.lean ====
section
/-! DEFINITION. The meanings of the requests that load the Design Table: OPEN TABLE, TABLE SEGMENT and CLOSE TABLE. -/

namespace Sys2Proof.Machine

/-- OPEN TABLE as its owner takes it (R74). -/
def openOwner (body : List Byte) (s : State) : State × Answer :=
  let count := byteAt body 4
  if s.job.state ≠ .idle ∧ s.params.mode ≠ .localMode then
    (s, refuse 0x0010 .tableInUse (jobCode s.job.state))
  else if count < 1 ∨ 128 < count then (s, refuse 0x0010 .tableFull 128)
  else (s.setTable (.opened count (BitVec.ofNat 16 (natAt body 5))), .tableOpened count)

/-- OPEN TABLE (R74). -/
def execOpenTable (tag : Word) (body : List Byte) (s : State) : Outcome :=
  .next (takeRequest ⟨0x0010, tag, body⟩ (body.length == 3) false (openOwner body) s)

/-- TABLE SEGMENT as its owner takes it (R75, R76). -/
def segmentOwner (body : List Byte) (s : State) : State × Answer :=
  let g := decodeSegment body
  match s.table.segmentRefusal g, g.stored with
  | some (reason, detail), _ => (s, refuse 0x0011 reason detail)
  | none, some stored =>
    let t := s.table.store stored
    (s.setTable t, .segmentStored t.received t.check)
  | none, none => (s, refuse 0x0011 .tableKind 1)

/-- TABLE SEGMENT (R75). -/
def execTableSegment (tag : Word) (body : List Byte) (s : State) : Outcome :=
  .next (takeRequest ⟨0x0011, tag, body⟩ (body.length == 18) false (segmentOwner body) s)

/-- CLOSE TABLE as its owner takes it (R78). -/
def closeOwner (s : State) : State × Answer :=
  if s.table.state ≠ .loading then (s, refuse 0x0012 .wrongState (tableCode s.table.state))
  else (s.setTable s.table.closed, .tableClosed s.table.outcome s.table.received s.table.check)

/-- CLOSE TABLE (R78). -/
def execCloseTable (tag : Word) (body : List Byte) (s : State) : Outcome :=
  .next (takeRequest ⟨0x0012, tag, body⟩ (noFields body) false closeOwner s)

end Sys2Proof.Machine
end

