-- ==== Sys2Proof/Machine/TestEvents.lean ====
section
/-! DEFINITION. The meanings of the events of the Self-Test (chapter 11): VALVE_READBACK, SELF_TEST_ITEM_EXPIRY and
MEMORY_MISMATCH. -/

namespace Sys2Proof.Machine

/-- VALVE_READBACK: a read-back that names the valve under test counts until a later one (R189). -/
def execValveReadback (valve : Valve) (position : Nat) (s : State) : Outcome :=
  .next (if s.test.inGroup 1 ∧ valve = valveOf s.test.item.2 then s.setTest { s.test with readback := some position } else s)

/-- SELF_TEST_ITEM_EXPIRY: the item under test is judged (R188). -/
def execSelfTestItemExpiry (s : State) : Outcome :=
  .next (if s.test.running ∧ s.test.timer.isSome then conclude (judgeItem s) else s)

/-- MEMORY_MISMATCH: a memory item fails at the first word read back wrong (R190). -/
def execMemoryMismatch (wordRead wordWritten : Word) (s : State) : Outcome :=
  .next (if s.test.inGroup 3 then
      conclude (endTest (some (s.test.failed .memory wordRead.toNat wordWritten.toNat)) s)
    else s)

end Sys2Proof.Machine
end

