-- ==== Sys2Proof/Machine/TravelEvents.lean ====
section
/-! DEFINITION. The meanings of ODOMETER_STEP and POSITION_SETTLE_EXPIRY (chapter 6). -/

namespace Sys2Proof.Machine

/-- The bounds of the travel counter, mm (R100). -/
def travelLow : Int := -50000
def travelHigh : Int := 4000000

/-- STOPPING begins, or its settle timer starts again (R108 to R111). -/
def stopAtTarget (settleTime : Nat) (t : Travel) : Travel := { t with state := .stopping, settle := some settleTime }

/-- The tests of a step in a state that leads to no fault, with P already updated (R108 to R111). -/
def Travel.stepped (p : Params) (t : Travel) : Travel :=
  match t.state with
  | .idle | .inPosition => t
  | .fast =>
    if t.goal - p.posTolerance ≤ t.p then stopAtTarget p.settleTime t
    else if t.goal - p.creepDistance ≤ t.p then { t with state := .creep }
    else t
  | .creep => if t.goal - p.posTolerance ≤ t.p then stopAtTarget p.settleTime t else t
  | .reversing => if t.p ≤ t.goal + p.posTolerance then stopAtTarget p.settleTime t else t
  | .stopping => stopAtTarget p.settleTime t

/-- P stands outside the tolerance of T. -/
def Travel.outside (p : Params) (t : Travel) : Bool := decide (p.posTolerance < (t.p - t.goal).natAbs)

/-- A travel fault: the Positioner makes itself IDLE with the drive STOP, and then hands the code over (R116). -/
def travelFault (code : FaultCode) (s : State) : State := raiseFault code .travel (positionerIdle s)

/-- What a step leads to after P has been updated; `saturated` tells that it was held at a bound (R101, R108 to R114). -/
def afterStep (saturated : Bool) (s : State) : State :=
  if saturated then
    if s.job.state = .running then travelFault .travelLimit s else s
  else if s.travel.state = .inPosition then
    if s.travel.outside s.params then travelFault .movedWhileWorking s else s
  else s.setTravel (s.travel.stepped s.params)

/-- ODOMETER_STEP: the increment is added to P within its bounds, and the state's tests are made (R100, R101). -/
def execOdometerStep (mm : Int) (s : State) : Outcome :=
  let sum := s.travel.p + mm
  let held := clamp travelLow travelHigh sum
  .next (conclude (followRetreat (afterStep (held != sum) (s.setTravel { s.travel with p := held }))))

/-- The settle timer's judgement of the rest position (R112). -/
def judgeRest (s : State) : State :=
  let t := s.travel
  let tol : Int := s.params.posTolerance
  if !t.outside s.params then inPosition (s.setTravel { t with state := .inPosition, settle := none })
  else if t.goal + tol < t.p then
    if s.params.overshootLimit < t.reversals + 1 then travelFault .positionFailed s
    else s.setTravel { t with state := .reversing, reversals := t.reversals + 1, settle := none }
  else s.setTravel { t with state := .creep, settle := none }

/-- POSITION_SETTLE_EXPIRY (R112). -/
def execPositionSettleExpiry (s : State) : Outcome :=
  .next (if s.travel.state = .stopping ∧ s.travel.settle.isSome then conclude (followRetreat (judgeRest s)) else s)

end Sys2Proof.Machine
end

