-- ==== Sys2Proof/Machine/UnitEvents.lean ====
section
/-! DEFINITION. The meanings of the events of a tamping unit (chapter 7): the grant, the five completions, and the expiries of
its timer. A completion is taken when its kind and number are those of the outstanding order (R121); an event the unit's state
does not take leaves it as it stands (R141). -/

namespace Sys2Proof.Machine

/-- A unit's event ends: the retreat is followed up (R38, R159), the drive order issued, and the line goes on. -/
def unitEvent (s : State) : State := conclude (followRetreat s)

/-! ## The grant -/

/-- The grant reaches a unit: a waiting unit that holds it issues its state's order and starts the timer (R122). A unit that
waits for nothing and has no motion under way releases it at once (R141, DEDUCED, safe, log entry 21). -/
def takeUnitGrant (u : UnitId) (s : State) : State :=
  let x := s.unit u
  if x.waiting then
    match s.arb.granted.contains (.unit u), x.motionOrder s.params with
    | true, some (o, ms) => orderUnit u o ms (changeUnit u (fun y => { y with waiting := false }) s)
    | _, _ => s
  else if x.order.isSome && x.state.motion then s
  else releaseGrant u s

/-- UNIT_GRANT (R122). -/
def execUnitGrant (u : UnitId) (s : State) : Outcome := .next (unitEvent (takeUnitGrant u s))

/-! ## Completions -/

/-- The motion under way ends with its completion: the order is done and the grant released (R122). -/
def endMotion (u : UnitId) (s : State) : State := releaseGrant u (endUnitOrder u s)

def setUnitState (u : UnitId) (st : UnitState) (s : State) : State := changeUnit u (fun x => { x with state := st }) s

/-- The side-shift is reached: the unit is SET, and lowers when its work is ordered (R124). -/
def shiftDone (u : UnitId) (s : State) : State :=
  let s1 := setUnitState u .set (endMotion u s)
  if (s.unit u).workOrdered then enterMotion u .lowering s1 else unitSet s1

/-- SHIFT_REACHED (R124). -/
def execShiftReached (u : UnitId) (number : Nat) (s : State) : Outcome :=
  .next (if (s.unit u).state = .shifting ∧ (s.unit u).awaits UnitOrder.isShift number then unitEvent (shiftDone u s) else s)

/-- The depth is reached: the unit is INSERTED, and squeezes when the gate is open (R126, R129). -/
def depthDone (u : UnitId) (s : State) : State :=
  let s1 := setUnitState u .inserted (endMotion u s)
  if s1.gateOpen then startSqueeze u s1 else s1

/-- DEPTH_REACHED (R126). -/
def execDepthReached (u : UnitId) (number : Nat) (s : State) : Outcome :=
  .next (if (s.unit u).state = .lowering ∧ (s.unit u).awaits UnitOrder.isLower number then unitEvent (depthDone u s) else s)

/-- The insertion is complete: the next one begins with a lift to mid height, or the unit rises to park (R131). -/
def insertionDone (u : UnitId) (s : State) : State :=
  let s1 := changeUnit u (TUnit.record fun r => { r with completed := r.completed + 1 }) s
  if (s.unit u).insertion < (s.unit u).given.insertions then
    enterMotion u .liftingOut (changeUnit u (fun x => { x with insertion := x.insertion + 1, retries := 0 }) s1)
  else enterMotion u .raising s1

/-- The tines are open: with the retreat mark the unit retreats (R136), and otherwise its insertion is complete (R131). -/
def tinesDone (u : UnitId) (s : State) : State :=
  let s1 := changeUnit u (fun x => { x with tinesClosed := false }) (endUnitOrder u s)
  if (s.unit u).retreat then enterMotion u .retreating s1 else insertionDone u s1

/-- TINES_OPEN (R131, R136). -/
def execTinesOpen (u : UnitId) (number : Nat) (s : State) : Outcome :=
  .next (if (s.unit u).state = .opening ∧ (s.unit u).awaits (· == .opens) number then unitEvent (tinesDone u s) else s)

/-- AT_MID: the unit goes down again (R127). -/
def execAtMid (u : UnitId) (number : Nat) (s : State) : Outcome :=
  .next (if (s.unit u).state = .liftingOut ∧ (s.unit u).awaits (· == .raiseMid) number then
      unitEvent (enterMotion u .lowering (endMotion u s))
    else s)

/-- Park height is reached: from RAISING the unit reports done (R132), and from RETREATING its retreat is over (R136). -/
def parkDone (u : UnitId) (s : State) : State :=
  let s1 := parkUnit u (endMotion u s)
  if (s.unit u).state = .raising then unitDone u s1 else s1

/-- The unit is on its way to park (R132, R136). -/
def UnitState.goingToPark : UnitState → Bool
  | .raising | .retreating => true
  | .unhomed | .parked | .shifting | .set | .lowering | .inserted | .squeezing | .opening | .liftingOut | .held | .stuck =>
    false

/-- AT_PARK (R132, R136). -/
def execAtPark (u : UnitId) (number : Nat) (s : State) : Outcome :=
  .next (if (s.unit u).state.goingToPark ∧ (s.unit u).awaits (· == .raisePark) number then unitEvent (parkDone u s) else s)

/-! ## Expiries -/

/-- The motion timer runs in the state given. -/
def TUnit.timed (x : TUnit) (st : UnitState) : Bool := x.state == st && x.timer.isSome

/-- A motion other than a lowering has not arrived in its time: the unit is STUCK and hands UNIT_STUCK over (R134). -/
def unitStuck (u : UnitId) (s : State) : State := unitEvent (raiseFault .unitStuck (.unit u) (stickUnit u s))

/-- SHIFT_TIMEOUT (R124). -/
def execShiftTimeout (u : UnitId) (s : State) : Outcome := .next (if (s.unit u).timed .shifting then unitStuck u s else s)

/-- OPEN_TIMEOUT (R131, R136). -/
def execOpenTimeout (u : UnitId) (s : State) : Outcome := .next (if (s.unit u).timed .opening then unitStuck u s else s)

/-- RAISE_MID_TIMEOUT (R127). -/
def execRaiseMidTimeout (u : UnitId) (s : State) : Outcome :=
  .next (if (s.unit u).timed .liftingOut then unitStuck u s else s)

/-- RAISE_PARK_TIMEOUT (R132, R136). -/
def execRaiseParkTimeout (u : UnitId) (s : State) : Outcome :=
  .next (if (s.unit u).timed .raising || (s.unit u).timed .retreating then unitStuck u s else s)

/-- The insertion is tried again from mid height (R126). -/
def retryInsertion (u : UnitId) (s : State) : State :=
  enterMotion u .liftingOut
    (changeUnit u (fun x =>
      { TUnit.record (fun r => { r with retriesUsed := r.retriesUsed + 1 }) x with retries := x.retries + 1 }) s)

/-- The insertion is blocked: under HALT the unit retreats and the job halts, under CONTINUE it rises to park (R128). -/
def blockInsertion (u : UnitId) (s : State) : State :=
  let s1 := changeUnit u (TUnit.record fun r => { r with blocked := true }) s
  match s.params.policy with
  | .halt =>
    raiseFault .unitBlocked (.unit u)
      (enterMotion u .retreating (changeUnit u (fun x => { x with retreat := true, frozen := true }) s1))
  | .goOn => enterMotion u .raising s1

/-- The lowering has run out of time: LOWER is cancelled and the grant released, and the unit retries or is blocked (R126). -/
def insertionExpired (u : UnitId) (s : State) : State :=
  let s1 := releaseGrant u (cancelUnit u s)
  if (s.unit u).retries < s.params.insertionRetries then retryInsertion u s1 else blockInsertion u s1

/-- INSERTION_TIMER_EXPIRY (R126, R128). -/
def execInsertionTimerExpiry (u : UnitId) (s : State) : Outcome :=
  .next (if (s.unit u).timed .lowering then unitEvent (insertionExpired u s) else s)

/-- The squeeze is judged from the unit's pressure channel, and OPEN replaces SQUEEZE (R91, R130). -/
def squeezeExpired (u : UnitId) (s : State) : State :=
  startOpening u
    (changeUnit u (fun x => TUnit.record (fun r => r.judge (s.meas.channels.press.get u) x.given.pressure) x) s)

/-- SQUEEZE_TIMER_EXPIRY (R130). -/
def execSqueezeTimerExpiry (u : UnitId) (s : State) : Outcome :=
  .next (if (s.unit u).timed .squeezing then unitEvent (squeezeExpired u s) else s)

end Sys2Proof.Machine
end

