-- ==== Sys2Proof/Machine/Dispatch.lean ====
section
/-! DEFINITION. The dispatch: each command goes to its one meaning. -/

namespace Sys2Proof.Machine

/-- The effect of one command on everything but the queue of commands. -/
def exec (i : Instr) (s : State) : Host.Outcome State Fault Refusal :=
  match i with
  | .powerOn park clampsOpen stopLine => Sys2Proof.Machine.execPowerOn park clampsOpen stopLine s
  | .identify tag body => Sys2Proof.Machine.execIdentify tag body s
  | .readStatus tag body => Sys2Proof.Machine.execReadStatus tag body s
  | .setParameters tag body => Sys2Proof.Machine.execSetParameters tag body s
  | .readParameters tag body => Sys2Proof.Machine.execReadParameters tag body s
  | .loadEntry tag body => Sys2Proof.Machine.execLoadEntry tag body s
  | .collectResults tag body => Sys2Proof.Machine.execCollectResults tag body s
  | .readQueue tag body => Sys2Proof.Machine.execReadQueue tag body s
  | .clearQueue tag body => Sys2Proof.Machine.execClearQueue tag body s
  | .startJob tag body => Sys2Proof.Machine.execStartJob tag body s
  | .pauseJob tag body => Sys2Proof.Machine.execPauseJob tag body s
  | .resumeJob tag body => Sys2Proof.Machine.execResumeJob tag body s
  | .retryEntry tag body => Sys2Proof.Machine.execRetryEntry tag body s
  | .skipEntry tag body => Sys2Proof.Machine.execSkipEntry tag body s
  | .abortJob tag body => Sys2Proof.Machine.execAbortJob tag body s
  | .parkAll tag body => Sys2Proof.Machine.execParkAll tag body s
  | .openTable tag body => Sys2Proof.Machine.execOpenTable tag body s
  | .tableSegment tag body => Sys2Proof.Machine.execTableSegment tag body s
  | .closeTable tag body => Sys2Proof.Machine.execCloseTable tag body s
  | .readTable tag body => Sys2Proof.Machine.execReadTable tag body s
  | .readMeasurement tag body => Sys2Proof.Machine.execReadMeasurement tag body s
  | .readTrail tag body => Sys2Proof.Machine.execReadTrail tag body s
  | .selfTest tag body => Sys2Proof.Machine.execSelfTest tag body s
  | .restart tag body => Sys2Proof.Machine.execRestart tag body s
  | .unknownKindRequest kind tag body => Sys2Proof.Machine.execUnknownKindRequest kind tag body s
  | .frameReceived b => Sys2Proof.Machine.execFrameReceived b s
  | .interByteTimeout => Sys2Proof.Machine.execInterByteTimeout s
  | .frameSent => Sys2Proof.Machine.execFrameSent s
  | .restartEffect => Sys2Proof.Machine.execRestartEffect s
  | .sampleArrival sample => Sys2Proof.Machine.execSampleArrival sample s
  | .sampleTimerExpiry => Sys2Proof.Machine.execSampleTimerExpiry s
  | .odometerStep mm => Sys2Proof.Machine.execOdometerStep mm s
  | .positionSettleExpiry => Sys2Proof.Machine.execPositionSettleExpiry s
  | .stopLineAssertion => Sys2Proof.Machine.execStopLineAssertion s
  | .stopLineRelease => Sys2Proof.Machine.execStopLineRelease s
  | .unitGrant u => Sys2Proof.Machine.execUnitGrant u s
  | .lluGrant => Sys2Proof.Machine.execLluGrant s
  | .shiftReached u number => Sys2Proof.Machine.execShiftReached u number s
  | .depthReached u number => Sys2Proof.Machine.execDepthReached u number s
  | .tinesOpen u number => Sys2Proof.Machine.execTinesOpen u number s
  | .atMid u number => Sys2Proof.Machine.execAtMid u number s
  | .atPark u number => Sys2Proof.Machine.execAtPark u number s
  | .shiftTimeout u => Sys2Proof.Machine.execShiftTimeout u s
  | .insertionTimerExpiry u => Sys2Proof.Machine.execInsertionTimerExpiry u s
  | .squeezeTimerExpiry u => Sys2Proof.Machine.execSqueezeTimerExpiry u s
  | .openTimeout u => Sys2Proof.Machine.execOpenTimeout u s
  | .raiseMidTimeout u => Sys2Proof.Machine.execRaiseMidTimeout u s
  | .raiseParkTimeout u => Sys2Proof.Machine.execRaiseParkTimeout u s
  | .clamped number => Sys2Proof.Machine.execClamped number s
  | .forceLimit number => Sys2Proof.Machine.execForceLimit number s
  | .unclamped number => Sys2Proof.Machine.execUnclamped number s
  | .clampTimeout => Sys2Proof.Machine.execClampTimeout s
  | .liftTimerExpiry => Sys2Proof.Machine.execLiftTimerExpiry s
  | .unclampTimeout => Sys2Proof.Machine.execUnclampTimeout s
  | .joinHoldExpiry => Sys2Proof.Machine.execJoinHoldExpiry s
  | .lluSettleExpiry => Sys2Proof.Machine.execLluSettleExpiry s
  | .valveReadback valve position => Sys2Proof.Machine.execValveReadback valve position s
  | .selfTestItemExpiry => Sys2Proof.Machine.execSelfTestItemExpiry s
  | .memoryMismatch wordRead wordWritten => Sys2Proof.Machine.execMemoryMismatch wordRead wordWritten s
  | .byteReceived b => Sys2Proof.Machine.execByteReceived b s

end Sys2Proof.Machine
end

