-- ==== Sys2Proof/Safety.lean ====
section
/-! DEFINITION. What a sound state of each block is, in the terms the statements use, and how a command's outcome is described:
the reply it leaves, the orders it sends, the drive it leaves. -/

namespace Sys2Proof.Machine

/-! ## Sound states -/

/-- The Flow Arbiter's record (R162, R163, R166, R169, R170): no requester twice or in both sets, at most N grants, N from 2 to
5, a pending count below the grants held, no grant while the stop mark is set, and nobody waiting while a grant is free. -/
def Arbiter.Sound (a : Arbiter) : Prop :=
  a.granted.Nodup ∧ a.waiting.Nodup ∧ (∀ r ∈ a.granted, r ∉ a.waiting) ∧
  a.granted.length ≤ a.slots ∧ 2 ≤ a.slots ∧ a.slots ≤ 5 ∧
  (∀ n, a.pendingN = some n → 2 ≤ n ∧ n < a.granted.length) ∧
  (a.stopMark = true → a.granted = []) ∧
  (a.stopMark = false → a.pendingN = none → a.granted.length < a.slots → a.waiting = [])

/-- The arbiter is sound, its stop mark follows the stop line, and the stored grant-slot count is one it may take (R43, R162). -/
def ArbiterSound (s : State) : Prop :=
  s.arb.Sound ∧ s.arb.stopMark = s.field.stopLine ∧ 2 ≤ s.params.grantSlots ∧ s.params.grantSlots ≤ 5

/-- The receiver's record and its timer (R173, R176, R177): a length in hand is 4 to 240, a body is shorter than its length until
it is whole, and the timer is stopped exactly in HUNT. -/
def Link.ReceiverSound (l : Link) : Prop :=
  (l.byteTimer = none ↔ l.receiver = .hunt) ∧
  (match l.receiver with
    | .hunt | .lengthFirst | .lengthSecond _ => True
    | .body n got => 4 ≤ n ∧ n ≤ 240 ∧ got.length < n
    | .checkFirst got => 4 ≤ got.length ∧ got.length ≤ 240
    | .checkSecond got _ => 4 ≤ got.length ∧ got.length ≤ 240)

/-- The bounds of the Machine Link's buffers and counts (R173), and a frame on the line whenever something waits to be sent, but
that a report waits for a frame that may be taken (R179, R182). -/
def LinkSound (s : State) : Prop :=
  s.link.ReceiverSound ∧ s.link.input.length ≤ 4 ∧ (s.link.replies.filter (·.busy)).length ≤ 4 ∧
  (s.link.replies.filter (!·.busy)).length ≤ 1 ∧ s.link.reports.length ≤ 16 ∧ s.link.dropped ≤ 255 ∧
  (s.link.line = none → s.link.restartPending = false →
    s.link.replies = [] ∧ (s.link.reports = [] ∨ s.link.input ≠ []))

/-- The drive order issued is the one due: the wanted order under the drive permission, and STOP without it (R104, R105). -/
def DriveSound (s : State) : Prop := s.travel.drive = s.driveDue

/-- While a job in DESIGN mode is not IDLE the table is VALID, and a self-test runs only with the job IDLE (R82, R187). -/
def TableHeld (s : State) : Prop :=
  (s.test.running = true → s.job.state = .idle) ∧
  (s.job.state ≠ .idle → s.params.mode = .design → s.table.state = .valid)

/-- Two neighbours of the queue, the older first: the numbers rise strictly, or are equal where the older carries JOINED_NEXT, and
the chain position counts along the chain (R9, R10). -/
def Slot.precedes (x y : Slot) : Prop :=
  if x.entry.joinedNext then y.entry.number = x.entry.number ∧ y.chainPos = x.chainPos + 1
  else x.entry.number < y.entry.number ∧ y.chainPos = 1

/-- The place of a state in the order law of R4: the finished slots, then the ACTIVE or FAULTED one, then the READY ones. -/
def SlotState.rank : SlotState → Nat
  | .done | .partDone | .skipped | .aborted => 0
  | .active | .faulted => 1
  | .ready => 2
  | .free => 3

/-- The ring (R4, R5, R9, R10): indices and counts within bounds, numbers in order, chains of at most 3 entries, no entry with both
JOINED_NEXT and END, RETRY counts of at most 3; and from the oldest on finished slots, then at most one ACTIVE or FAULTED slot, then
READY slots. -/
def WorkQueue.Ordered (q : WorkQueue) : Prop :=
  q.oldest < 64 ∧ q.slots.length ≤ 64 ∧
  (∀ x ∈ q.slots, x.state ≠ .free ∧ 1 ≤ x.chainPos ∧ x.chainPos ≤ 3 ∧ (x.entry.joinedNext = true → x.chainPos ≤ 2) ∧
    ¬ (x.entry.joinedNext = true ∧ x.entry.isEnd = true) ∧ 1 ≤ x.entry.number ∧ x.entry.distance ≤ 2500 ∧ x.retries ≤ 3) ∧
  (∀ (i : Nat) (x y : Slot), q.slots[i]? = some x → q.slots[i + 1]? = some y → x.precedes y) ∧
  q.slots.Pairwise (fun x y => x.state.rank ≤ y.state.rank ∧ ¬ (x.state.rank = 1 ∧ y.state.rank = 1))

/-- No slot is ACTIVE or FAULTED. -/
def NoneWorking (q : WorkQueue) : Prop := ∀ x ∈ q.slots, x.state ≠ .active ∧ x.state ≠ .faulted

/-- The queue and the job together (R14, R23, R24, R37): the ring is in order; no slot is ACTIVE or FAULTED with the job IDLE, in
STARVED, or PAUSED with the phase absent; none is ACTIVE with the job HALTED, and none FAULTED with the job RUNNING or PAUSED. -/
def QueueSound (s : State) : Prop :=
  s.queue.Ordered ∧ (s.job.state = .idle → NoneWorking s.queue) ∧
  (s.job.state = .halted → ∀ x ∈ s.queue.slots, x.state ≠ .active) ∧
  (s.job.state = .running ∨ s.job.state = .paused →
    (∀ x ∈ s.queue.slots, x.state ≠ .faulted) ∧ (s.job.phase = some .starved → NoneWorking s.queue)) ∧
  (s.job.state = .paused → s.job.phase = none → NoneWorking s.queue)

/-- The order is one the state waits for (R119). -/
def UnitOrder.fits : UnitOrder → UnitState → Bool
  | .shift _ _, .shifting => true
  | .lower _, .lowering => true
  | .squeeze _, .squeezing => true
  | .opens, .opening => true
  | .raiseMid, .liftingOut => true
  | .raisePark, .raising => true
  | .raisePark, .retreating => true
  | _, _ => false

/-- The states with neither order nor timer nor grant (R119). -/
def UnitState.resting : UnitState → Bool
  | .unhomed | .parked | .set | .inserted | .held | .stuck => true
  | .shifting | .lowering | .squeezing | .opening | .liftingOut | .raising | .retreating => false

/-- The table of R119 for one unit: a waiting unit is in a motion state with nothing outstanding; a unit with an order is in that
order's state, with the number last issued; a unit with neither rests; the timer runs exactly while an order is outstanding; and
the tines are closed in SQUEEZING and OPENING, may be closed in HELD and STUCK, and are open in every other state (R136). -/
def TUnit.Shaped (x : TUnit) : Prop :=
  (x.timer.isSome = x.order.isSome) ∧ x.orderNo ≤ 255 ∧
  (match x.waiting, x.order with
    | true, none => x.state.motion = true
    | false, some (o, n) => o.fits x.state = true ∧ n = x.orderNo
    | false, none => x.state.resting = true
    | true, some _ => False) ∧
  (x.tinesClosed = true → x.state = .squeezing ∨ x.state = .opening ∨ x.state = .held ∨ x.state = .stuck) ∧
  (x.state = .squeezing ∨ x.state = .opening → x.tinesClosed = true)

/-- The order is one the LLU's state waits for (R143). -/
def LluOrder.fits : LluOrder → LluState → Bool
  | .clamp _, .clamping => true
  | .liftLine _ _ _ _, .lifting => true
  | .unclamp, .releasing => true
  | _, _ => false

/-- The table of R143 for the LLU: it waits in CLAMPING or RELEASING with nothing outstanding; an order is that of its state, with
the number last issued, and its timer runs; outside RELEASING a retreating LLU waits for nothing and has no order (R158), and an
OPEN or SETTLING one has no retreat mark; the join-hold timer runs in HOLDING alone, and the settle timer in SETTLING alone. -/
def Llu.Shaped (x : Llu) : Prop :=
  (x.timer.isSome = x.order.isSome) ∧ x.orderNo ≤ 255 ∧
  (match x.waiting, x.order with
    | true, none => x.state = .clamping ∨ x.state = .releasing
    | false, some (o, n) => o.fits x.state = true ∧ n = x.orderNo
    | false, none => x.state ≠ .releasing
    | true, some _ => False) ∧
  (x.retreat = true → x.state ≠ .releasing → x.waiting = false ∧ x.order = none) ∧
  (x.state = .isOpen ∨ x.state = .settling → x.retreat = false) ∧
  (x.joinHold.isSome = true → x.state = .holding) ∧ (x.settle.isSome = true → x.state = .settling)

/-- A unit may be at work for the active entry: in POSITIONING and WORKING, and in HOLDING with an active entry, it does not yet
count as done (R28, R29, R31). -/
def State.atWork (s : State) (u : UnitId) : Bool :=
  match s.job.phase with
  | some .positioning | some .working => !s.job.done.get u
  | some .holding => s.entryInWork && !s.job.done.get u
  | some .releasing | some .starved | none => false

/-- While a job runs or is paused, a unit that is not at work is PARKED; so an activation finds every unit PARKED (R123, R31). -/
def UnitsAtRest (s : State) : Prop :=
  s.job.state = .running ∨ s.job.state = .paused → ∀ u, s.atWork u = false → (s.unit u).state = .parked

/-- A self-test runs, and a RESTART waits for its effect, only with the job IDLE (R185, R187). -/
def IdleHeld (s : State) : Prop :=
  (s.test.running = true → s.job.state = .idle) ∧ (s.link.restartPending = true → s.job.state = .idle)

/-- The workhead as a whole: every unit and the LLU stand as their tables give (R119, R143); units that are not at work are PARKED;
the join hold runs only in HOLDING with no active entry (R154); and no unit is SQUEEZING unless the LLU is AT_DEMAND or HOLDING
(R129). -/
def WorkheadSound (s : State) : Prop :=
  (∀ u, (s.unit u).Shaped) ∧ s.llu.Shaped ∧ UnitsAtRest s ∧ IdleHeld s ∧
  (s.llu.joinHold.isSome = true → s.job.state = .running ∧ s.job.phase = some .holding ∧ s.entryInWork = false) ∧
  (∀ u, (s.unit u).state = .squeezing → s.llu.state = .atDemand ∨ s.llu.state = .holding)

/-- A channel (R86): the held count is 0 in VALID, 1 to 5 in HELD and 5 in LOST, and a VALID or HELD channel has a value, which
lies in the channel's range (R84, R87). -/
def ChannelRec.Sound (c : Channel) (x : ChannelRec) : Prop :=
  (match x.state with
    | .valid => x.held = 0 ∧ x.value.isSome = true
    | .held => 1 ≤ x.held ∧ x.held ≤ 5 ∧ x.value.isSome = true
    | .lost => x.held = 5) ∧
  (∀ v, x.value = some v → (channelRange c).1 ≤ v ∧ v ≤ (channelRange c).2)

/-- The Residual Trail (R94): at most 32 records in strictly increasing position, each with both residuals, within ±1,500, or
with neither. -/
def Trail.Sound (t : Trail) : Prop :=
  t.records.length ≤ 32 ∧ t.count ≤ 65535 ∧
  t.records.Pairwise (fun x y => x.position < y.position) ∧
  (∀ x ∈ t.records, x.line.isSome = x.level.isSome ∧ (∀ v, x.line = some v → -1500 ≤ v ∧ v ≤ 1500) ∧
    (∀ v, x.level = some v → -1500 ≤ v ∧ v ≤ 1500))

/-- The travel counter and the target lie within their ranges, and so does the position base (R23, R100, R102). -/
def TravelSound (s : State) : Prop :=
  -50000 ≤ s.travel.p ∧ s.travel.p ≤ 4000000 ∧ 0 ≤ s.job.base ∧ s.job.base ≤ 4000000 ∧
  (∀ t, s.travel.target = some t → 0 ≤ t ∧ t ≤ 4000000)

/-- Every stored job parameter lies in its range (R43). -/
def Params.InRange (p : Params) : Prop :=
  ∀ n, n < 21 → ∀ v, p.values[n]? = some v → (paramRange n).1 ≤ v ∧ v ≤ (paramRange n).2

/-- A stored segment fits its kind (R72, R73). -/
def Segment.Fits (g : Segment) : Prop :=
  0 ≤ g.start ∧ g.start ≤ 4000000 ∧ 1000 ≤ g.length ∧ g.length ≤ 400000 ∧
  -10000 ≤ g.k0 ∧ g.k0 ≤ 10000 ∧ -10000 ≤ g.k1 ∧ g.k1 ≤ 10000 ∧
  -1800 ≤ g.cant0 ∧ g.cant0 ≤ 1800 ∧ -1800 ≤ g.cant1 ∧ g.cant1 ≤ 1800 ∧
  (match g.kind with
    | .straight => g.k0 = 0 ∧ g.k1 = 0 ∧ g.cant0 = g.cant1
    | .curve => g.k0 = g.k1 ∧ g.k0 ≠ 0 ∧ g.cant0 = g.cant1
    | .transition => g.k0 ≠ g.k1)

/-- The Design Table (R70, R71, R74, R75, R76): a declared count is 1 to 128; at most as many segments as declared, indexed from 0,
each fitting its kind and starting where the one before it ends; nothing in EMPTY; all that was declared in VALID, with the declared
check. -/
def DesignTable.Sound (t : DesignTable) : Prop :=
  t.segments.length ≤ t.count ∧ t.count ≤ 128 ∧ (∀ n check, t.declared = some (n, check) → 1 ≤ n) ∧
  (∀ (i : Nat) (g : Segment), t.segments[i]? = some g → g.index = i ∧ g.Fits) ∧
  (∀ (i : Nat) (g h : Segment), t.segments[i]? = some g → t.segments[i + 1]? = some h → h.start = g.start + g.length) ∧
  (t.state = .empty → t.segments = [] ∧ t.declared = none ∧ t.check = 0) ∧
  (t.state = .valid → t.segments.length = t.count ∧ t.declared = some (t.count, t.check) ∧ 1 ≤ t.count)

/-- What the TL-440 stores for the computation lies within the ranges its rules give. -/
def StoreSound (s : State) : Prop :=
  s.params.InRange ∧ (∀ c, (s.meas.channels.get c).Sound c) ∧ s.trail.Sound ∧ TravelSound s ∧ s.table.Sound

/-! ## How an outcome is described -/

/-- The blocks of Job Control and of the stores are as they were. -/
def SameJob (s t : State) : Prop :=
  t.queue = s.queue ∧ t.job = s.job ∧ t.params = s.params ∧ t.engine = s.engine ∧ t.table = s.table ∧ t.meas = s.meas ∧
  t.trail = s.trail ∧ t.test = s.test ∧ t.pending = s.pending

/-- The travel record is as it was but for the drive order, which is the one due; and the Field Side has received `orders` and then
the drive order, if it changed (R104). -/
def Driven (s t : State) (orders : List FieldOrder) : Prop :=
  t.travel = { s.travel with drive := t.driveDue } ∧
  t.field = { s.field with
    sent := s.field.sent ++ orders ++ (if s.travel.drive = t.driveDue then [] else [.drive t.driveDue]) }

/-- The drive and the orders are as `Driven` says, and the next frame has begun if the line was free (R182). -/
def Issued (s t : State) (orders : List FieldOrder) : Prop := Driven s t orders ∧ t.link = s.link.begin

/-- The order STOP, where it changes the drive order issued (R104). -/
def State.stopOrders (s : State) : List FieldOrder := if s.travel.drive = .stop then [] else [.drive .stop]

/-- The Positioner has become IDLE with the drive STOP, the order sent if it is a change, and P, T and the reversal count kept
(R104, R115, R116). -/
def State.idled (s : State) : State :=
  { s with
    travel := { s.travel with state := .idle, settle := none, drive := .stop }
    field := { s.field with sent := s.field.sent ++ s.stopOrders } }

/-- The frame may be taken (R179): no taken reply is unsent, restart pending is clear, and the frame is the oldest of the input
buffer. -/
def Takeable (s : State) (f : Frame) : Prop :=
  (∀ r ∈ s.link.replies, r.busy = true) ∧ s.link.restartPending = false ∧ s.link.input.head? = some f

/-- The frame has left the buffer, its reply has joined the reply list, the reports `rs` have been placed, and the next frame has
begun if the line was free (R179, R181, R182, R183). -/
def Answered (s t : State) (f : Frame) (a : Answer) (rs : List Report) : Prop :=
  t.link = (rs.foldl Link.place
    { s.link with
      input := s.link.input.drop 1
      replies := s.link.replies ++ [⟨false, replyKind f.kind, f.tag, a⟩] }).begin

/-- The frame of a request command, when it is one (R174, R179). -/
def requestFrame : Instr → Option Frame
  | .identify tag body => some ⟨0x0001, tag, body⟩
  | .readStatus tag body => some ⟨0x0002, tag, body⟩
  | .setParameters tag body => some ⟨0x0003, tag, body⟩
  | .readParameters tag body => some ⟨0x0004, tag, body⟩
  | .loadEntry tag body => some ⟨0x0005, tag, body⟩
  | .collectResults tag body => some ⟨0x0006, tag, body⟩
  | .readQueue tag body => some ⟨0x0007, tag, body⟩
  | .clearQueue tag body => some ⟨0x0008, tag, body⟩
  | .startJob tag body => some ⟨0x0009, tag, body⟩
  | .pauseJob tag body => some ⟨0x000A, tag, body⟩
  | .resumeJob tag body => some ⟨0x000B, tag, body⟩
  | .retryEntry tag body => some ⟨0x000C, tag, body⟩
  | .skipEntry tag body => some ⟨0x000D, tag, body⟩
  | .abortJob tag body => some ⟨0x000E, tag, body⟩
  | .parkAll tag body => some ⟨0x000F, tag, body⟩
  | .openTable tag body => some ⟨0x0010, tag, body⟩
  | .tableSegment tag body => some ⟨0x0011, tag, body⟩
  | .closeTable tag body => some ⟨0x0012, tag, body⟩
  | .readTable tag body => some ⟨0x0013, tag, body⟩
  | .readMeasurement tag body => some ⟨0x0014, tag, body⟩
  | .readTrail tag body => some ⟨0x0015, tag, body⟩
  | .selfTest tag body => some ⟨0x0016, tag, body⟩
  | .restart tag body => some ⟨0x0017, tag, body⟩
  | .unknownKindRequest kind tag body => some ⟨kind, tag, body⟩
  | .powerOn _ _ _ | .frameReceived _ | .interByteTimeout | .frameSent | .restartEffect | .sampleArrival _
  | .sampleTimerExpiry | .odometerStep _ | .positionSettleExpiry | .stopLineAssertion | .stopLineRelease | .unitGrant _
  | .lluGrant | .shiftReached _ _ | .depthReached _ _ | .tinesOpen _ _ | .atMid _ _ | .atPark _ _ | .shiftTimeout _
  | .insertionTimerExpiry _ | .squeezeTimerExpiry _ | .openTimeout _ | .raiseMidTimeout _ | .raiseParkTimeout _
  | .clamped _ | .forceLimit _ | .unclamped _ | .clampTimeout | .liftTimerExpiry | .unclampTimeout | .joinHoldExpiry
  | .lluSettleExpiry | .valveReadback _ _ | .selfTestItemExpiry | .memoryMismatch _ _ | .byteReceived _ => none

/-- The body lengths of the kinds with no optional field, body counted with kind and tag (R194). -/
def fixedLength : Nat → Option Nat
  | 0x10 => some 7
  | 0x11 => some 22
  | 0x13 | 0x15 => some 5
  | 0x16 => some 6
  | 0x03 | 0x05 => none
  | _ => some 4

/-- A body fits its kind (R180, R194): its length, and for LOAD ENTRY and SET PARAMETERS its presence marks. -/
def FitsKind (f : Frame) : Prop :=
  if f.kind = 0x0005 then loadFits f.body = true
  else if f.kind = 0x0003 then paramsFit f.body = true
  else fixedLength f.kind.toNat = some (4 + f.body.length)

/-- One of the seven reading requests (R180). -/
def ReadingKind (kind : Word) : Prop :=
  kind.toNat = 1 ∨ kind.toNat = 2 ∨ kind.toNat = 4 ∨ kind.toNat = 7 ∨ kind.toNat = 0x13 ∨ kind.toNat = 0x14 ∨ kind.toNat = 0x15

/-! ## Loading, in the terms of R8 to R12 -/

/-- The reference of a load: sleeper number, JOINED_NEXT and chain position of the newest occupied slot; the number 0 without
JOINED_NEXT when no slot is occupied (R9). -/
def WorkQueue.reference (q : WorkQueue) : Nat × Bool × Nat :=
  match q.slots.getLast? with
  | some y => (y.entry.number, y.entry.joinedNext, y.chainPos)
  | none => (0, false, 0)

/-- The sleeper number is in order: equal to a reference with JOINED_NEXT, greater than any other (R9). -/
def NumberInOrder (q : WorkQueue) (e : Entry) : Prop :=
  if q.reference.2.1 then e.number = q.reference.1 else q.reference.1 < e.number

/-- The chain is well formed: none of the three conditions of R10 holds. -/
def ChainInOrder (q : WorkQueue) (e : Entry) : Prop :=
  ¬ (q.reference.2.1 = true ∧ e.distance ≠ 0) ∧ ¬ (e.joinedNext = true ∧ e.isEnd = true) ∧
  ¬ (e.joinedNext = true ∧ q.reference.2.1 = true ∧ q.reference.2.2 = 2)

/-- The detail of JOIN_MISMATCH: the first of the three conditions of R10 that holds. -/
def FirstChainFault (q : WorkQueue) (e : Entry) (detail : Nat) : Prop :=
  (q.reference.2.1 = true ∧ e.distance ≠ 0 ∧ detail = 1) ∨
  (¬ (q.reference.2.1 = true ∧ e.distance ≠ 0) ∧ e.joinedNext = true ∧ e.isEnd = true ∧ detail = 2) ∨
  (¬ (q.reference.2.1 = true ∧ e.distance ≠ 0) ∧ ¬ (e.joinedNext = true ∧ e.isEnd = true) ∧ e.joinedNext = true ∧
    q.reference.2.1 = true ∧ q.reference.2.2 = 2 ∧ detail = 3)

/-- The chain position of a new entry (R10). -/
def WorkQueue.newChainPos (q : WorkQueue) : Nat := if q.reference.2.1 then q.reference.2.2 + 1 else 1

/-- One setpoint of an entry: the code of its field, its range and the value sent (R12, R195). -/
structure Setpoint where
  code  : Nat
  low   : Int
  high  : Int
  value : Int
  deriving DecidableEq, Repr

/-- The four setpoints of one unit, from its first code on (R12, R195). -/
def UnitSettings.setpoints (code : Nat) (u : UnitSettings) : List Setpoint :=
  [⟨code, 0, 400, u.shift⟩, ⟨code + 1, 400, 650, u.depth⟩, ⟨code + 2, 60, 150, u.pressure⟩, ⟨code + 3, 1, 3, u.insertions⟩]

/-- The 22 setpoints of an entry in the order of R12; an absent optional field stands at its default, and an absent branch offset
is no setpoint (R3, R12). -/
def Entry.setpoints (e : Entry) : List Setpoint :=
  [⟨1, 0, 100, e.allowance⟩] ++ e.units.lo.setpoints 2 ++ e.units.li.setpoints 6 ++ e.units.ri.setpoints 10
    ++ e.units.ro.setpoints 14
    ++ [⟨18, -1500, 1500, e.frontOffset⟩, ⟨19, 0, 1500, e.frontLift⟩, ⟨20, -10000, 10000, e.localCurv⟩,
        ⟨21, -1800, 1800, e.localCant⟩]
    ++ (e.branch.map fun x => ⟨22, -200, 200, x⟩).toList

/-- A value brought to the nearer bound of a setpoint's range (R12). -/
def Setpoint.nearest (x : Setpoint) : Int := max x.low (min x.value x.high)

/-- The setpoint is outside its range. -/
def Setpoint.outside (x : Setpoint) : Bool := decide (x.value < x.low) || decide (x.high < x.value)

/-- What an accepted load stores of the entry sent: number, distance, flags and tine masks as sent, and every setpoint at the
nearer bound of its range (R8, R12). -/
def StoredAs (e stored : Entry) : Prop :=
  stored.number = e.number ∧ stored.distance = e.distance ∧ stored.joinedNext = e.joinedNext ∧ stored.isEnd = e.isEnd ∧
  stored.hook = e.hook ∧ stored.hookSide = e.hookSide ∧ (∀ u, (stored.units.get u).mask = (e.units.get u).mask) ∧
  stored.setpoints.map (·.value) = e.setpoints.map (·.nearest)

/-- Job Control activates a loaded entry at once: in STARVED, and in HOLDING with no slot ACTIVE or FAULTED (R33). -/
def LoadActivates (s : State) : Prop :=
  s.job.state = .running ∧ (s.job.phase = some .starved ∨
    (s.job.phase = some .holding ∧ ∀ x ∈ s.queue.slots, x.state ≠ .active ∧ x.state ≠ .faulted))

/-- A collection stops at the front of these slots: it is not finished, or it is the newest slot and carries JOINED_NEXT, or it is
the held entry's (no finished slot behind it) while `held` (R19). -/
def CollectionStops (held : Bool) : List Slot → Prop
  | [] => True
  | x :: rest =>
    x.state.finished = false ∨ (x.entry.joinedNext = true ∧ rest = []) ∨ (held = true ∧ ∀ y ∈ rest, y.state.finished = false)

/-- Every slot of `taken` could be taken with what stood behind it (R19). -/
def CollectionTakes (held : Bool) : List Slot → List Slot → Prop
  | [], _ => True
  | x :: taken, rest => ¬ CollectionStops held (x :: (taken ++ rest)) ∧ CollectionTakes held taken rest

/-! ## Activation and retreat, in the terms of R28, R107, R123, R135, R158 and R159 -/

/-- Positioning has started from `here` toward `goal`: the first case of R107 that holds. -/
def Positioned (p : Params) (here goal : Int) (t : Travel) : Prop :=
  t.p = here ∧ t.target = some goal ∧
  (if p.creepDistance < goal - here then t.state = .fast ∧ t.reversals = 0 ∧ t.settle = none
   else if p.posTolerance < goal - here then t.state = .creep ∧ t.reversals = 0 ∧ t.settle = none
   else if p.posTolerance < here - goal then t.state = .reversing ∧ t.reversals = 1 ∧ t.settle = none
   else t.state = .stopping ∧ t.reversals = 0 ∧ t.settle = some p.settleTime)

/-- A unit after the activation of an entry that gives it the settings `g` (R123). -/
def TUnit.activated (g : UnitSettings) (x : TUnit) : TUnit :=
  { x with
    settings := some g, workOrdered := false, frozen := false, insertion := 1, retries := 0
    result := ⟨g.mask != 0, 0, 0, false, false, false⟩
    state := if g.mask = 0 then x.state else .shifting
    waiting := if g.mask = 0 then x.waiting else true }

/-- The slot at place `k`, holding `x`, has been activated in `s` with P at `here` and the LLU not HOLDING: the slot is ACTIVE, T is
the position base plus the distance, held at 4,000,000 mm, positioning has started, the units have their settings and the used
ones ask for their side-shift in the order LO, LI, RI, RO, and an OPEN LLU has cleared its reached mark (R28, R102, R107, R123,
R146). -/
def Activated (s t : State) (k : Nat) (x : Slot) (here : Int) : Prop :=
  t.queue = { s.queue with slots := s.queue.slots.set k { x with state := .active, kept := none } } ∧
  Positioned s.params here (min (s.job.base + x.entry.distance) 4000000) t.travel ∧
  (∀ u, t.unit u = (s.unit u).activated (x.entry.units.get u)) ∧
  t.arb = (UnitId.all.filter fun u => (x.entry.units.get u).mask != 0).foldl (fun a u => a.request (.unit u)) s.arb ∧
  t.llu = { s.llu with reached := if s.llu.state = .isOpen then false else s.llu.reached } ∧
  t.job.phase = some .positioning ∧ (∀ u, t.job.done.get u = ((x.entry.units.get u).mask == 0))

/-- The slot at place `k` is the oldest READY one and holds `x` (R14). -/
def OldestReady (q : WorkQueue) (k : Nat) (x : Slot) : Prop :=
  q.slots[k]? = some x ∧ x.state = .ready ∧ ∀ j y, j < k → q.slots[j]? = some y → y.state ≠ .ready

/-- The slot at place `k` is the only one ACTIVE or FAULTED, and holds `x` (R14). -/
def OnlyWorking (q : WorkQueue) (k : Nat) (x : Slot) : Prop :=
  q.slots[k]? = some x ∧ (x.state = .active ∨ x.state = .faulted) ∧
  ∀ j y, j ≠ k → q.slots[j]? = some y → y.state ≠ .active ∧ y.state ≠ .faulted

/-- Everything stands at park, as START JOB, RETRY ENTRY, SKIP ENTRY and SELF TEST need it (R27). -/
def AtPark (s : State) : Prop :=
  (∀ u, (s.unit u).state = .parked) ∧ s.llu.state = .isOpen ∧ s.field.stopLine = false

/-- The first thing that does not stand at park, by its detail: LO, LI, RI, RO, the LLU, the stop line (R27). -/
def FirstNotParked (s : State) (detail : Nat) : Prop :=
  (s.units.lo.state ≠ .parked ∧ detail = 1) ∨
  (s.units.lo.state = .parked ∧ s.units.li.state ≠ .parked ∧ detail = 2) ∨
  (s.units.lo.state = .parked ∧ s.units.li.state = .parked ∧ s.units.ri.state ≠ .parked ∧ detail = 3) ∨
  (s.units.lo.state = .parked ∧ s.units.li.state = .parked ∧ s.units.ri.state = .parked ∧ s.units.ro.state ≠ .parked ∧
    detail = 4) ∨
  ((∀ u, (s.unit u).state = .parked) ∧ s.llu.state ≠ .isOpen ∧ detail = 5) ∨
  ((∀ u, (s.unit u).state = .parked) ∧ s.llu.state = .isOpen ∧ s.field.stopLine = true ∧ detail = 6)

/-- The order number after one more order (R118, R142). -/
def numberAfter (n : Nat) : Nat := if n = 255 then 0 else n + 1

/-- A unit sent to RETREATING: it waits for its grant, with no order and no timer (R122, R135). -/
def TUnit.sentUp (x : TUnit) : TUnit := { x with state := .retreating, waiting := true, order := none, timer := none }

/-- A unit sent to OPENING: OPEN is ordered with a timer of 1,000 ms (R130, R135). -/
def TUnit.sentOpening (x : TUnit) : TUnit :=
  { x with
    state := .opening, order := some (.opens, numberAfter x.orderNo), orderNo := numberAfter x.orderNo, timer := some 1000 }

/-- A unit after the retreat order, by the table of R135; `parkAll` tells a PARK ALL, `inWork` that an entry is ACTIVE or
FAULTED. -/
def TUnit.retreated (parkAll inWork : Bool) (x : TUnit) : TUnit :=
  let marked : TUnit := { x with retreat := true, workOrdered := false, frozen := x.frozen || inWork }
  match x.state with
  | .parked => x
  | .set | .shifting =>
    { marked with state := .parked, retreat := false, waiting := false, order := none, timer := none }
  | .lowering | .liftingOut | .raising | .inserted => marked.sentUp
  | .squeezing => marked.sentOpening
  | .opening | .retreating | .held => marked
  | .unhomed => if parkAll then marked.sentUp else x
  | .stuck => if !parkAll then x else if x.tinesClosed then marked.sentOpening else marked.sentUp

/-- What the retreat order makes a unit send: the CANCEL of the motion it gives up, or OPEN (R121, R135). -/
def TUnit.retreatOrders (parkAll : Bool) (u : UnitId) (x : TUnit) : List FieldOrder :=
  match x.state, x.order with
  | .shifting, some (_, n) | .lowering, some (_, n) | .liftingOut, some (_, n) | .raising, some (_, n) => [.unitCancel u n]
  | .squeezing, _ => [.unit u .opens (numberAfter x.orderNo)]
  | .stuck, _ => if parkAll && x.tinesClosed then [.unit u .opens (numberAfter x.orderNo)] else []
  | _, _ => []

/-- What a unit's retreat does at the arbiter: a waiting request is withdrawn, and the grant of a motion under way released,
before a unit that enters RETREATING places its request (R122, R135, R167, R168). -/
def TUnit.retreatArb (parkAll : Bool) (u : UnitId) (x : TUnit) (a : Arbiter) : Arbiter :=
  let left := if x.waiting then a.withdraw (.unit u) else a.release (.unit u)
  match x.state with
  | .parked | .set | .squeezing | .opening | .retreating | .held => a
  | .shifting => left
  | .lowering | .liftingOut | .raising => left.request (.unit u)
  | .inserted => a.request (.unit u)
  | .unhomed => if parkAll then a.request (.unit u) else a
  | .stuck => if parkAll && !x.tinesClosed then a.request (.unit u) else a

/-- The LLU after the retreat order, by the table of R158. -/
def Llu.retreated (parkAll : Bool) (x : Llu) : Llu :=
  let stopped : Llu :=
    { x with retreat := true, joinHold := none, settle := none, waiting := false, order := none, timer := none }
  let opened : Llu := { stopped with state := .isOpen, retreat := false }
  match x.state with
  | .isOpen | .settling => opened
  | .clamping => if x.clampsClosed then stopped else opened
  | .lifting | .atDemand | .holding => stopped
  | .releasing | .held => { x with retreat := true, joinHold := none, settle := none }
  | .unhomed | .stuck => if parkAll then { x with retreat := true, joinHold := none, settle := none } else x

/-- What the retreat order makes the LLU send: the CANCEL of the CLAMP or LIFT_LINE it gives up (R145, R158). -/
def Llu.retreatOrders (x : Llu) : List FieldOrder :=
  match x.state, x.order with
  | .clamping, some (_, n) | .lifting, some (_, n) => [.lluCancel n]
  | _, _ => []

/-- What the LLU's retreat does at the arbiter: outside RELEASING a waiting request is withdrawn, or the grant released (R158). -/
def Llu.retreatArb (x : Llu) (a : Arbiter) : Arbiter :=
  match x.state with
  | .releasing | .held | .unhomed | .stuck => a
  | .isOpen | .clamping | .lifting | .atDemand | .holding | .settling => if x.waiting then a.withdraw .llu else a.release .llu

/-- The arbiter after the common retreat has been ordered: the retreat mode is set, and then LO, LI, RI, RO and the LLU give up what
they held or waited for and ask for what they need (R38, R135, R158, R165). -/
def State.retreatArb (parkAll : Bool) (s : State) : Arbiter :=
  s.llu.retreatArb
    (UnitId.all.foldl (fun a u => (s.unit u).retreatArb parkAll u a) { s.arb with retreatMode := true })

/-- The LLU waits for the units under a retreat: clamped, or UNHOMED or STUCK under PARK ALL, or HELD (R159, R160). -/
def Llu.WaitsToRelease (x : Llu) : Prop :=
  x.retreat = true ∧ x.state ≠ .isOpen ∧ x.state ≠ .releasing ∧ x.state ≠ .settling

/-- The release that a retreat leads to: an LLU that waits for it enters RELEASING when every unit is PARKED and the stop line is
not asserted, and is unchanged otherwise (R159). -/
def ReleasedAfter (s : State) (before after : Llu) : Prop :=
  ((before.WaitsToRelease ∧ (∀ u, (s.unit u).state = .parked) ∧ s.field.stopLine = false) →
    after = { before with state := .releasing, waiting := true, joinHold := none }) ∧
  (¬ (before.WaitsToRelease ∧ (∀ u, (s.unit u).state = .parked) ∧ s.field.stopLine = false) → after = before)

/-- The retreat is over: complete, with every unit PARKED and the LLU OPEN, or stalled, with no unit RETREATING or opening for a
retreat, the LLU not RELEASING, and a unit or the LLU STUCK (R38). -/
def RetreatOver (s : State) : Prop :=
  ((∀ u, (s.unit u).state = .parked) ∧ s.llu.state = .isOpen) ∨
  ((∀ u, (s.unit u).state ≠ .retreating ∧ ¬ ((s.unit u).state = .opening ∧ (s.unit u).retreat = true)) ∧
    s.llu.state ≠ .releasing ∧ ((∃ u, (s.unit u).state = .stuck) ∨ s.llu.state = .stuck))

/-- A retreat that is under way has been followed up from the LLU `before` and the arbiter `a`: an LLU that waits releases if it
may, and places its request when it does; and the arbiter's retreat mode, if set, stands until the retreat is over. Nothing else
changes at the arbiter (R38, R159, R163). -/
def RetreatFollowed (before : Llu) (a : Arbiter) (t : State) : Prop :=
  ReleasedAfter t before t.llu ∧ (t.arb.retreatMode = true ↔ a.retreatMode = true ∧ ¬ RetreatOver t) ∧
  t.arb = { (if t.llu = before then a else a.request .llu) with retreatMode := t.arb.retreatMode }

/-- The common retreat has been ordered in `s`, where `inWork` tells that an entry was then ACTIVE or FAULTED (R38): the
Positioner is IDLE with the drive STOP, each unit and the LLU have taken the order, with the arbiter's grants and requests
following, the LLU releases if it may, and the retreat mode is set unless the retreat is over. The Field Side has the drive order
first, if it changed, and then the orders of LO, LI, RI, RO and the LLU (DESIGN CHOICE, unsafe, log entry 6). -/
def Retreated (parkAll inWork : Bool) (s t : State) : Prop :=
  t.travel = s.idled.travel ∧
  (∀ u, t.unit u = (s.unit u).retreated parkAll inWork) ∧
  RetreatFollowed (s.llu.retreated parkAll) (s.retreatArb parkAll) t ∧
  t.field = { s.field with
    sent := s.field.sent ++ s.stopOrders ++ (UnitId.all.flatMap fun u => (s.unit u).retreatOrders parkAll u)
      ++ s.llu.retreatOrders }

/-- The position C and the correction part of a result, from the slot copy (R16, R65, R66). -/
def CorrectionPart (x : Slot) (r : Result) : Prop :=
  r.c = x.copy.map (·.c) ∧
  r.correction = x.copy.map fun c => ⟨c.s, c.uL, c.uR, if x.entry.hook then c.hookLift else none, c.flags⟩

/-- The achieved part of a result, from what the LLU had reached, the hook value for an entry with HOOK alone (R17, R65). -/
def AchievedPart (e : Entry) (reached : Option Achievement) (r : Result) : Prop :=
  r.achieved = reached.map fun a =>
    ⟨⟨a.values.line, a.values.left, a.values.right, if e.hook then a.values.hook else none⟩, a.liftShort, a.lineForce⟩

/-- The job has been aborted in `s` (R41): every READY slot is ABORTED with an empty result (R18), every other slot that was not the
active one is as it was, the job is IDLE, the correction record is discarded, the retreat is ordered, and the stores are as they
were. -/
def JobAborted (s t : State) : Prop :=
  t.queue.oldest = s.queue.oldest ∧ t.queue.slots.length = s.queue.slots.length ∧
  (∀ i y, s.queue.slots[i]? = some y →
    (y.state ≠ .ready → y.state ≠ .active → y.state ≠ .faulted → t.queue.slots[i]? = some y) ∧
    (y.state = .ready → ∃ r, t.queue.slots[i]? = some { y with state := .aborted, result := some r } ∧
      r.number = y.entry.number ∧ r.slot = (s.queue.oldest + i) % 64 ∧ r.final = .aborted ∧ CorrectionPart y r ∧
      r.achieved = none ∧ r.residual = none ∧ r.residualMissing = false ∧ r.fault = none ∧ r.retries = y.retries ∧
      ∀ u, r.units.get u = ⟨(y.entry.units.get u).mask != 0, 0, 0, false, false, false⟩)) ∧
  t.job = { s.job with state := .idle, phase := none, pausePending := false, endReason := .aborted } ∧
  t.engine = .noRecord ∧ Retreated false false s t ∧
  t.params = s.params ∧ t.table = s.table ∧ t.meas = s.meas ∧ t.trail = s.trail ∧ t.test = s.test ∧ t.pending = s.pending

/-! ## Faults, in the terms of R25, R26 and R37 -/

/-- The job has been halted in `s` by the fault `code` of the source given (R37): the job is HALTED with the phase absent and pause
pending clear; the halt record names the slot that was made FAULTED, if an entry was ACTIVE; that slot keeps the unit results and
the achievement as they stood; the correction record is discarded; a JOB STATE report is placed; and the retreat is ordered. -/
def Halted (code : FaultCode) (source : FaultSource) (s t : State) : Prop :=
  (∀ k x, OnlyWorking s.queue k x → x.state = .active →
    t.queue = { s.queue with
      slots := s.queue.slots.set k { x with state := .faulted, kept := some ⟨s.unitResults, s.llu.achievement⟩ } } ∧
    t.job.halt = some ⟨code, source, some ((s.queue.oldest + k) % 64), none⟩) ∧
  ((∀ x ∈ s.queue.slots, x.state ≠ .active) → t.queue = s.queue ∧ t.job.halt = some ⟨code, source, none, none⟩) ∧
  t.job = { s.job with state := .halted, phase := none, pausePending := false, halt := t.job.halt } ∧
  t.engine = .noRecord ∧ Retreated false s.entryInWork s t ∧
  t.params = s.params ∧ t.table = s.table ∧ t.meas = s.meas ∧ t.trail = s.trail ∧ t.test = s.test ∧ t.pending = s.pending ∧
  t.link = (s.link.place (.jobState ⟨.halted, none, t.job.endReason, t.job.halt, false, t.queue.activeIndex⟩)).begin

/-- A fault code reaches Job Control in `s` (R26): RUNNING and PAUSED halt; HALTED records it as the last further fault with a
report; IDLE records nothing. In HALTED and IDLE a retreat that goes on is followed up: an LLU that waits releases when it may,
and asks for its grant, and the retreat mode ends when the retreat is over (R38, R159). -/
def Faulted (code : FaultCode) (source : FaultSource) (s t : State) : Prop :=
  (s.job.state = .running ∨ s.job.state = .paused → Halted code source s t) ∧
  (s.job.state = .halted ∨ s.job.state = .idle →
    t.queue = s.queue ∧ t.params = s.params ∧ t.engine = s.engine ∧ t.table = s.table ∧ t.meas = s.meas ∧ t.trail = s.trail ∧
    t.test = s.test ∧ t.pending = s.pending ∧ t.units = s.units ∧ RetreatFollowed s.llu s.arb t ∧
    t.travel = { s.travel with drive := .stop } ∧ t.field = { s.field with sent := s.field.sent ++ s.stopOrders }) ∧
  (s.job.state = .halted →
    t.job = { s.job with halt := s.job.halt.map fun h => { h with further := some code } } ∧
    t.link = (s.link.place (.jobState
      ⟨.halted, s.job.phase, s.job.endReason, t.job.halt, s.job.pausePending, s.queue.activeIndex⟩)).begin) ∧
  (s.job.state = .idle → t.job = s.job ∧ t.link = s.link.begin)

/-- No retreat is under way: the retreat mode and the LLU's retreat mark are clear. -/
def NoRetreat (s : State) : Prop := s.arb.retreatMode = false ∧ s.llu.retreat = false

/-- What a bad value does to a channel: VALID becomes HELD with the count 1, HELD counts on to 5 and then becomes LOST, LOST
stays; the value is kept (R86). -/
def ChannelBad (before after : ChannelRec) : Prop :=
  after.value = before.value ∧
  (before.state = .valid → after.state = .held ∧ after.held = 1) ∧
  (before.state = .held → before.held < 5 → after.state = .held ∧ after.held = before.held + 1) ∧
  (before.state = .held → before.held = 5 → after.state = .lost ∧ after.held = 5) ∧
  (before.state = .lost → after.state = .lost ∧ after.held = 5)

/-! ## The workhead's events, in the terms of R121, R122, R129, R145 and R149 -/

/-- The unit has issued an order, with the next number and the timer given (R121). -/
def TUnit.ordered (o : UnitOrder) (ms : Nat) (x : TUnit) : TUnit :=
  { x with order := some (o, numberAfter x.orderNo), orderNo := numberAfter x.orderNo, timer := some ms }

/-- The unit's order has ended: none is outstanding and the timer is stopped (R121). -/
def TUnit.ended (x : TUnit) : TUnit := { x with order := none, timer := none }

/-- The unit enters a motion state and waits for its grant (R122). -/
def TUnit.asks (st : UnitState) (x : TUnit) : TUnit := { x with state := st, waiting := true }

/-- The result changes, unless it is frozen (R133). -/
def TUnit.noting (f : UnitResult → UnitResult) (x : TUnit) : TUnit := { x with result := if x.frozen then x.result else f x.result }

/-- The order of a motion state, with its time: SHIFT and LOWER carry the settings of the entry (R43, R119, R124, R125, R127, R132,
R136). -/
def TUnit.MotionOrder (x : TUnit) (p : Params) (o : UnitOrder) (ms : Nat) : Prop :=
  (∃ g, x.settings = some g ∧
    ((x.state = .shifting ∧ o = .shift g.shift g.mask ∧ ms = 3000) ∨
     (x.state = .lowering ∧ o = .lower g.depth ∧ ms = p.insertionTime))) ∨
  (x.state = .liftingOut ∧ o = .raiseMid ∧ ms = 2500) ∨
  ((x.state = .raising ∨ x.state = .retreating) ∧ o = .raisePark ∧ ms = 2500)

/-- Only the unit `u`, the arbiter, the drive and the line have changed: the unit is `x`, the arbiter `a`, and the Field Side has
received `orders`. -/
def UnitMoved (u : UnitId) (x : TUnit) (a : Arbiter) (orders : List FieldOrder) (s t : State) : Prop :=
  t = { s with units := s.units.set u x, arb := a, travel := t.travel, field := t.field, link := t.link } ∧ Issued s t orders

/-- The LLU has issued an order, with the next number and the timer given (R145). -/
def Llu.ordered (o : LluOrder) (ms : Nat) (x : Llu) : Llu :=
  { x with order := some (o, numberAfter x.orderNo), orderNo := numberAfter x.orderNo, timer := some ms }

/-- The LLU's order has ended: none is outstanding and the timer is stopped (R145). -/
def Llu.ended (x : Llu) : Llu := { x with order := none, timer := none }

/-- Only the LLU, the arbiter, the drive and the line have changed. -/
def LluMoved (x : Llu) (a : Arbiter) (orders : List FieldOrder) (s t : State) : Prop :=
  t = { s with llu := x, arb := a, travel := t.travel, field := t.field, link := t.link } ∧ Issued s t orders

/-- What the opening of the squeeze gate makes of a unit: an INSERTED one squeezes with its pressure (R129, R152). -/
def TUnit.gated (p : Params) (x : TUnit) : TUnit :=
  match x.state, x.settings with
  | .inserted, some g => { x.ordered (.squeeze g.pressure) p.squeezeTime with state := .squeezing, tinesClosed := true }
  | _, _ => x

/-- What the opening of the squeeze gate makes a unit send (R129). -/
def TUnit.gateOrders (u : UnitId) (x : TUnit) : List FieldOrder :=
  match x.state, x.settings with
  | .inserted, some g => [.unit u (.squeeze g.pressure) (numberAfter x.orderNo)]
  | _, _ => []

/-- The lifting has ended with the LLU as `x` leaves it: AT_DEMAND with its reached mark set, the grant released, and the gate open
to every INSERTED unit (R149, R152). -/
def ReachedDemand (x : Llu) (s t : State) : Prop :=
  t = { s with
    llu := { x.ended with state := .atDemand, reached := true }, arb := s.arb.release .llu, units := t.units, meas := t.meas
    travel := t.travel, field := t.field, link := t.link } ∧
  (∀ u, t.unit u = (s.unit u).gated s.params) ∧
  Issued s t (UnitId.all.flatMap fun u => (s.unit u).gateOrders u)

/-- Every axis stands within the tolerance of its demand; the hook counts when it is engaged and a hook demand stands (R149). -/
def Achieved.Meets (a : Achieved) (d : Demands) (tolerance : Nat) : Prop :=
  (a.line - d.lining).natAbs ≤ tolerance ∧ (a.left - d.left).natAbs ≤ tolerance ∧ (a.right - d.right).natAbs ≤ tolerance ∧
  ∀ lift side h, d.hook = some (lift, side) → a.hook = some h → (h - lift).natAbs ≤ tolerance

/-- Every INSERTED unit has settings: an INSERTED unit works for an entry (R118, R126). -/
def InsertedHaveSettings (s : State) : Prop := ∀ u, (s.unit u).state = .inserted → (s.unit u).settings ≠ none

/-- The result of an entry that was worked to its end (R16, R17, R31): PARTIAL when a unit was blocked, DONE otherwise; its C and
correction from the slot copy, its achieved values when the LLU reached the demand, the units' results, and no fault. -/
def WorkedResult (s : State) (k : Nat) (x : Slot) (residual : Option (Int × Int)) (missing : Bool) (r : Result) : Prop :=
  r.number = x.entry.number ∧ r.slot = (s.queue.oldest + k) % 64 ∧
  (r.final = .partDone ↔ ∃ u, (s.unit u).result.blocked = true) ∧ (r.final = .partDone ∨ r.final = .done) ∧
  r.c = x.copy.map (·.c) ∧ (x.copy = none → r.correction = none) ∧
  (∀ c, x.copy = some c → ∃ hook, r.correction = some ⟨c.s, c.uL, c.uR, hook, c.flags⟩ ∧
    hook = if x.entry.hook then c.hookLift else none) ∧
  (s.llu.reached = false → r.achieved = none) ∧
  (∀ a, s.llu.reached = true → s.llu.achieved = some a →
    r.achieved = some ⟨⟨a.line, a.left, a.right, if x.entry.hook then a.hook else none⟩, s.llu.liftShort, s.llu.lineForce⟩) ∧
  r.residual = residual ∧ r.residualMissing = missing ∧ (∀ u, r.units.get u = (s.unit u).result) ∧ r.fault = none ∧
  r.retries = x.retries

/-! ## The end of an entry's work and what follows, in the terms of R28, R29, R31 and R32 -/

/-- Only the drive, its order and the line may still differ from `w`, and the drive is as `Driven` says. -/
def Settled (w t : State) : Prop := t = { w with travel := t.travel, field := t.field, link := t.link } ∧ Driven w t []

/-- `Settled`, and the next frame has begun if the line was free (R182). -/
def Ended (w t : State) : Prop := Settled w t ∧ t.link = w.link.begin

/-- The work has ended in `w` without JOINED_NEXT: the LLU enters RELEASING and waits, the phase is RELEASING, and a WORKING record
is CLOSING (R31, R64, R155). -/
def State.workReleased (w : State) : State :=
  { w with
    job := { w.job with phase := some .releasing }
    engine := match w.engine with
      | .working c => .closing c
      | e => e
    llu := { w.llu with state := .releasing, waiting := true, joinHold := none }
    arb := w.arb.request .llu }

/-- The work has ended in `w` with JOINED_NEXT: the LLU holds with its join-hold timer, the entry in the slot at place `k` has
finished with the result `r`, the position base is T, the phase HOLDING, and a WORKING record is HELD (R31, R64, R153, R154). -/
def State.workHeld (w : State) (k : Nat) (x : Slot) (r : Result) (goal : Int) : State :=
  { w with
    queue := { w.queue with slots := w.queue.slots.set k { x with state := r.final, result := some r } }
    job := { w.job with phase := some .holding, base := goal }
    engine := match w.engine with
      | .working c => .held c
      | e => e
    llu := { w.llu with state := .holding, joinHold := some w.params.joinHold }
    link := w.link.place (.entryFinished r.slot r.number r.final) }

/-- A slot whose entry is ACTIVE with the held correction `c` taken over (R29, R65). -/
def Slot.tookOver (y : Slot) (c : Correction) : Slot := { y with state := .active, kept := none, copy := some c.takenOver }

/-- The entry `y` at place `j` has been activated in `w` on the held track: the record `c` is taken over and copied to the slot, the
join-hold timer stops, T is the base plus the distance, and the used units ask for their side-shift. The phase is HOLDING while they
shift, and WORKING when there is none (R28, R29, R65, R102, R123). -/
def State.continued (w : State) (j : Nat) (y : Slot) (c : Correction) : State :=
  { w with
    queue := { w.queue with slots := w.queue.slots.set j (y.tookOver c) }
    job := { w.job with
      phase := some (if y.entry.units.all (·.mask == 0) then .working else .holding)
      done := y.entry.units.map (·.mask == 0) }
    engine := .working c.takenOver
    llu := { w.llu with joinHold := none }
    units := ⟨w.units.lo.activated y.entry.units.lo, w.units.li.activated y.entry.units.li,
      w.units.ri.activated y.entry.units.ri, w.units.ro.activated y.entry.units.ro⟩
    arb := (UnitId.all.filter fun u => (y.entry.units.get u).mask != 0).foldl (fun a u => a.request (.unit u)) w.arb
    travel := { w.travel with target := some (min (w.job.base + y.entry.distance) 4000000) } }

/-- What follows when the work of the entry `x`, ACTIVE at place `k` with the target `goal`, ends in `w` (R31): the release, or the
hold with the finish of the entry. Behind a hold the next READY entry is activated on the held track; with used units its side-shift
is awaited, and without any its own work ends at once (R29). A chain has at most 3 entries, so `rounds` is 3 in use (R10). -/
def WorkEnds : (rounds : Nat) → (w t : State) → (k : Nat) → (x : Slot) → (goal : Int) → Prop
  | 0, _, _, _, _, _ => True
  | rounds + 1, w, t, k, x, goal =>
    (x.entry.joinedNext = false → Ended w.workReleased t) ∧
    (x.entry.joinedNext = true → x.entry.isEnd = false → ∃ r, WorkedResult w k x none false r ∧
      ((∀ y ∈ w.queue.slots, y.state ≠ .ready) → Ended (w.workHeld k x r goal) t) ∧
      (∀ j y c, OldestReady w.queue j y → w.engine = .working c →
        ((∃ u, (y.entry.units.get u).mask ≠ 0) → Ended ((w.workHeld k x r goal).continued j y c) t) ∧
        ((∀ u, (y.entry.units.get u).mask = 0) →
          WorkEnds rounds ((w.workHeld k x r goal).continued j y c) t j (y.tookOver c)
            (min (goal + y.entry.distance) 4000000))))

/-- The lifting has ended with the LLU as `x` leaves it and the channels at `meas`. With a unit still at work the track is at
demand and the gate open (R149); with every unit done and PARKED in WORKING, the work of the active entry ends (R31). -/
def LiftEnds (x : Llu) (meas : Measurement) (s t : State) : Prop :=
  ((∃ u, s.job.done.get u = false) → t.meas = meas ∧ ReachedDemand x s t) ∧
  (∀ k y goal, (∀ u, s.job.done.get u = true) → (∀ u, (s.unit u).state = .parked) → s.job.state = .running →
    s.job.phase = some .working → OnlyWorking s.queue k y → y.state = .active → s.travel.target = some goal →
    WorkEnds 3
      { s with llu := { x.ended with state := .atDemand, reached := true }, arb := s.arb.release .llu, meas := meas } t k y goal)

/-- A release has ended in `mid` with no entry at work any more, and Job Control has gone on with tests 3 to 5 of R32: the pending
pause takes effect, or no READY entry is left and the phase is STARVED, or the oldest READY entry is activated. -/
def GoesOn (mid t : State) : Prop :=
  (mid.job.pausePending = true →
    t = { mid with
      job := { mid.job with state := .paused, phase := none, pausePending := false }
      travel := t.travel, field := t.field, link := t.link } ∧
    Driven { mid with travel := { mid.travel with state := .idle, settle := none } } t [] ∧
    t.link = (mid.link.place (.jobState ⟨.paused, none, mid.job.endReason, mid.job.halt, false, none⟩)).begin) ∧
  (mid.job.pausePending = false → (∀ y ∈ mid.queue.slots, y.state ≠ .ready) →
    t = { mid with job := { mid.job with phase := some .starved }, travel := t.travel, field := t.field, link := t.link } ∧
    Issued { mid with travel := { mid.travel with state := .idle, settle := none } } t []) ∧
  (∀ j y, mid.job.pausePending = false → OldestReady mid.queue j y →
    Activated mid t j y mid.travel.p ∧
    t = { mid with
      queue := t.queue, job := { mid.job with phase := some .positioning, done := t.job.done }, llu := t.llu
      units := t.units, arb := t.arb, travel := t.travel, field := t.field, link := t.link } ∧
    t.travel.drive = t.driveDue ∧
    t.field = { mid.field with
      sent := mid.field.sent ++ (if mid.travel.drive = t.driveDue then [] else [.drive t.driveDue]) } ∧
    t.link = mid.link.begin)

/-- A unit works by the channel at a sample in CLAMPING and LIFTING: LINE, the grade rail's level channel and CANT, and HOOK when
the demands carry a hook lift (R151). -/
def State.LiftsBy (s : State) (ch : Channel) : Prop :=
  ch = .line ∨ ch = levelChannel s.params.grade ∨ ch = .cant ∨
  (ch = .hook ∧ ∃ d, s.llu.demands = some d ∧ d.hook.isSome = true)

/-- The LLU has given up its motion in `s` and handed SENSOR_LOST over: its order, if it has one, is cancelled, its timer stopped,
its grant released or its request withdrawn, and its state kept; `meas` holds the channels after the sample (R151). -/
def LluSensorLost (meas : Measurement) (s t : State) : Prop :=
  Faulted .sensorLost .llu
    { s with
      meas := meas
      llu := { s.llu.ended with waiting := false }
      arb := if s.llu.waiting then s.arb.withdraw .llu else s.arb.release .llu
      field := { s.field with
        sent := s.field.sent ++ (match s.llu.order with
          | some (_, n) => [.lluCancel n]
          | none => []) } } t

/-- What a sample in LIFTING that raises no fault makes of the LLU: it forms the achieved values from the channels `m` that the
sample left (R148). With the baseline absent (R144), or a channel it reads LOST (R87), the values stay as they stand (log entry
37). -/
def AchievedFormed (s : State) (m : Channels ChannelRec) (x : Llu) : Prop :=
  let lost := (∃ ch ∈ [Channel.line, levelChannel s.params.grade, .cant], (m.get ch).state = .lost) ∨
    (s.llu.hookEngaged = true ∧ m.hook.state = .lost)
  (∀ b, s.llu.baseline = some b → ¬ lost → ∃ (a : Achieved) (rail cantChange : Int), x = { s.llu with achieved := some a } ∧
    rail = b.h0 - (m.get (levelChannel s.params.grade)).current ∧ cantChange = m.cant.current - b.c0 ∧
    a.line = m.line.current - b.m0 ∧
    (s.params.grade = .left → a.left = rail ∧ a.right = rail + cantChange) ∧
    (s.params.grade = .right → a.right = rail ∧ a.left = rail - cantChange) ∧
    (s.llu.hookEngaged = false → a.hook = none) ∧
    (∀ h0, s.llu.hookEngaged = true → b.hook0 = some h0 → a.hook = some (m.hook.current - h0))) ∧
  (s.llu.baseline = none ∨ lost → x = s.llu)

/-- A sample has been taken in LIFTING under the retreat mark (R148, R158): the achieved values are formed, no fault is raised, no
arrival is tested, and the retreat goes on as R159 and R38 give. -/
def RetreatSample (s t : State) : Prop :=
  ∃ x, AchievedFormed s t.meas.channels x ∧ RetreatFollowed x s.arb t ∧
    t = { s with meas := t.meas, llu := t.llu, arb := t.arb, travel := t.travel, field := t.field, link := t.link } ∧ Issued s t []

/-! ## The arbiter's choice, in the terms of R163 to R169 -/

/-- How many units of the cycle LO, LI, RI, RO stand before the unit, counted from the one after the pointer, and from LO when the
pointer is none (R164). -/
def UnitId.turn : Option UnitId → UnitId → Nat
  | none, .lo | some .ro, .lo | some .lo, .li | some .li, .ri | some .ri, .ro => 0
  | none, .li | some .ro, .li | some .lo, .ri | some .li, .ro | some .ri, .lo => 1
  | none, .ri | some .ro, .ri | some .lo, .ro | some .li, .lo | some .ri, .li => 2
  | none, .ro | some .ro, .ro | some .lo, .lo | some .li, .li | some .ri, .ri => 3

/-- The waiting requester is the one to be chosen: with the retreat mode clear the LLU before any unit, with it set any unit
before the LLU, and of the units the one whose turn comes first (R164, R165). -/
def Arbiter.Chooses (a : Arbiter) : Requester → Prop
  | .llu => .llu ∈ a.waiting ∧ (a.retreatMode = true → ∀ u, .unit u ∉ a.waiting)
  | .unit u => .unit u ∈ a.waiting ∧ (a.retreatMode = false → .llu ∉ a.waiting) ∧
    ∀ v, .unit v ∈ a.waiting → UnitId.turn a.pointer u ≤ UnitId.turn a.pointer v

/-- The four conditions under which the arbiter grants (R166). -/
def Arbiter.MayGrant (a : Arbiter) : Prop :=
  a.stopMark = false ∧ a.pendingN = none ∧ a.granted.length < a.slots ∧ a.waiting ≠ []

/-- The chosen requester has passed from the waiting list to the granted set, and a chosen unit is the pointer (R164, R166). -/
def Arbiter.granting (a : Arbiter) (r : Requester) : Arbiter :=
  { a with
    waiting := a.waiting.erase r, granted := a.granted ++ [r]
    pointer := match r with
      | .llu => a.pointer
      | .unit u => some u }

/-- The grant of `r` has been taken off: a pending count that is not below the grants still held is in force (R167, R169). -/
def Arbiter.without (a : Arbiter) (r : Requester) : Arbiter :=
  match a.pendingN with
  | none => { a with granted := a.granted.erase r }
  | some n =>
    if (a.granted.erase r).length ≤ n then { a with granted := a.granted.erase r, slots := n, pendingN := none }
    else { a with granted := a.granted.erase r }

/-! ## The stop line, in the terms of R133, R138, R139 and R160 -/

/-- A stop line's assertion makes a unit HELD, but for the five states that ignore it: its order and its request are given up, and
its result is frozen while an entry is ACTIVE or FAULTED (R133, R138). -/
def TUnit.stopped (inWork : Bool) (x : TUnit) : TUnit :=
  match x.state with
  | .parked | .set | .unhomed | .stuck | .held => x
  | _ => { x.ended with state := .held, waiting := false, frozen := x.frozen || inWork }

/-- What the assertion makes a unit send (R138). -/
def TUnit.stopOrders (u : UnitId) (x : TUnit) : List FieldOrder :=
  match x.state, x.order with
  | .parked, _ | .set, _ | .unhomed, _ | .stuck, _ | .held, _ | _, none => []
  | _, some (_, n) => [.unitCancel u n]

/-- A stop line's assertion makes the LLU HELD, but for the four states that ignore it (R160). -/
def Llu.stopped (x : Llu) : Llu :=
  match x.state with
  | .isOpen | .unhomed | .stuck | .held => x
  | _ => { x.ended with state := .held, waiting := false, joinHold := none, settle := none }

/-- What the assertion makes the LLU send (R160). -/
def Llu.stopOrders (x : Llu) : List FieldOrder :=
  match x.state, x.order with
  | .isOpen, _ | .unhomed, _ | .stuck, _ | .held, _ | _, none => []
  | _, some (_, n) => [.lluCancel n]

/-! ## The self-test, in the terms of R187 to R190 -/

/-- The channels of the group 2 items (R189). -/
def testChannels : List (Nat × Channel) :=
  [(1, .line), (2, .levelL), (3, .levelR), (4, .cant), (5, .hook), (6, .press .lo), (7, .press .li), (8, .press .ri),
   (9, .press .ro)]

/-- The 17 items, in the order of a full run (R187, R189, R190). -/
def testItems : List (Nat × Nat) :=
  [(1, 1), (1, 2), (1, 3), (1, 4), (1, 5), (1, 6), (2, 1), (2, 2), (2, 3), (2, 4), (2, 5), (2, 6), (2, 7), (2, 8), (2, 9),
   (3, 1), (3, 2)]

/-- An item has started: it is under test with its time, a valve item has sent its drive of 600, and a memory item has destroyed its
memory (R188, R189, R190). The Field Side receives `before` first. -/
def ItemStarted (gi : Nat × Nat) (rest : List (Nat × Nat)) (passed : Nat) (before : List FieldOrder) (s t : State) : Prop :=
  t.test = { s.test with
    item := gi, rest := rest, passed := passed, readback := none, seenGood := false
    timer := some (if gi.1 = 1 then 400 else if gi.1 = 2 then 100 else 800) } ∧
  t.queue = (if gi = (3, 1) then ⟨0, []⟩ else s.queue) ∧
  t.table = (if gi = (3, 2) then ⟨.empty, none, [], 0⟩ else s.table) ∧
  t.field = { s.field with
    sent := s.field.sent ++ before ++ (if gi.1 = 1 then [.valveTest (valveOf gi.2) 600] else []) }

/-- The order that ends the drive of a valve item (R189, R191). -/
def SelfTest.restOrders (x : SelfTest) : List FieldOrder := if x.item.1 = 1 then [.valveRest (valveOf x.item.2)] else []

/-- The item under test passes at its expiry: a read-back from 570 to 630, or a good value seen, or no mismatch (R189, R190). -/
def SelfTest.Passes (x : SelfTest) : Prop :=
  (x.item.1 = 1 ∧ ∃ p, x.readback = some p ∧ 570 ≤ p ∧ p ≤ 630) ∨ (x.item.1 = 2 ∧ x.seenGood = true) ∨ x.item.1 = 3

/-- The item under test fails at its expiry, with its record (R188, R189). -/
def SelfTest.Fails (x : SelfTest) (f : FailureRecord) : Prop :=
  (x.item.1 = 1 ∧ ((x.readback = none ∧ f = ⟨1, x.item.2, .noReadback, 0, 600⟩) ∨
    (∃ p, x.readback = some p ∧ ¬ (570 ≤ p ∧ p ≤ 630) ∧ f = ⟨1, x.item.2, .readback, p, 600⟩))) ∨
  (x.item.1 = 2 ∧ x.seenGood = false ∧ f = ⟨2, x.item.2, .noSample, 0, 1⟩)

end Sys2Proof.Machine
end

