-- ==== Sys2Proof/Certificates/Slice0/Obligations.lean ====
section
/-! DEFINITION. The statements for the provers: what each command of the TL-440 does, what it leaves as it was, and what every
step keeps. -/

section

open Sys2Proof Sys2Proof.Machine

/-! ## The block and its commands -/

/-- A step takes the command at the front of the queue and runs it on the rest; an empty queue idles (log entry 1: the block has
no tick in the table, and idling is the model's choice). -/
def Obligations.StepTakesTheFrontCommand : Prop :=
  ∀ s : State, (∀ c rest, s.pending = c :: rest → step s = exec c { s with pending := rest }) ∧
    (s.pending = [] → step s = .next s)

/-- No command stops the block: each answers a next state, and leaves the commands that wait behind it alone. The manual gives
every request a reply and every event an effect, if only that it is ignored. -/
def Obligations.EveryCommandAnswersANextState : Prop :=
  ∀ (c : Instr) (s : State), ∃ t, exec c s = .next t ∧ t.pending = s.pending

/-- Power-on gives every block its initial state, whatever it held before (R22, R23, R44, R63, R83, R85, R87, R99, R117, R120,
R144, R162, R173, R187); the first JOB STATE report is already on the line (R182).
The model's choices: log entries 11, 12 and 29. -/
def Obligations.PowerOnSetsEveryBlock : Prop :=
  ∀ (park : Quad Bool) (clampsOpen stopLine : Bool) (s : State), ∃ t, exec (.powerOn park clampsOpen stopLine) s = .next t ∧
    t.queue = ⟨0, []⟩ ∧
    t.job = ⟨.idle, none, false, 0, none, .powerOn, ⟨false, false, false, false⟩⟩ ∧
    t.params.values =
      [0, 0, 0, 6000, 14000, 5000, 10000, 800, 600, 150, 10, 15, 300, 250, 2, 1500, 2, 900, 3000, 20000, 3] ∧
    t.engine = .noRecord ∧ t.table = ⟨.empty, none, [], 0⟩ ∧ t.trail = ⟨[], 0⟩ ∧
    (∀ c, t.meas.channels.get c = ⟨.lost, 5, none⟩) ∧ t.meas.timer = some 20 ∧
    t.travel = ⟨0, none, .idle, 0, none, .stop⟩ ∧
    (∀ u, t.unit u =
      { state := if park.get u then .parked else .unhomed
        waiting := false, settings := none, workOrdered := false, insertion := 1, retries := 0, order := none, orderNo := 0
        timer := none, tinesClosed := false, retreat := false, result := ⟨false, 0, 0, false, false, false⟩
        frozen := false }) ∧
    t.llu =
      { state := if clampsOpen then .isOpen else .unhomed
        waiting := false, demands := none, baseline := none, achieved := none, reached := false, liftShort := false
        lineForce := false, clampsClosed := false, hookEngaged := false, retreat := false, order := none, orderNo := 0
        timer := none, joinHold := none, settle := none, count := 0 } ∧
    t.arb = ⟨3, none, [], [], none, false, stopLine⟩ ∧
    t.test.running = false ∧ t.test.failure = none ∧ t.test.timer = none ∧
    t.field = ⟨stopLine, []⟩ ∧ t.pending = s.pending ∧
    t.link =
      { receiver := .hunt, byteTimer := none, input := [], replies := [], reports := [], lost := false, dropped := 0
        restartPending := false
        line := some ⟨false, frameOf ((Report.jobState ⟨.idle, none, .powerOn, none, false, none⟩).body false)⟩ }

/-- The state right after power-on is sound in every block.
The model's choice: log entry 2. -/
def Obligations.ResetIsSound : Prop :=
  ArbiterSound State.reset ∧ LinkSound State.reset ∧ DriveSound State.reset ∧ TableHeld State.reset ∧
  QueueSound State.reset ∧ WorkheadSound State.reset ∧ StoreSound State.reset ∧ State.reset.pending = []

/-! ## The Machine Link -/

/-- A byte before a frame's last check byte moves the receiver as the table of R176 gives, with the rescan of a length out of
range; nothing else changes, but that the next frame begins when the line is free (R182). -/
def Obligations.BytesMoveTheReceiver : Prop :=
  ∀ (b : Byte) (s : State), s.link.ReceiverSound → (∀ got low, s.link.receiver ≠ .checkSecond got low) →
    ∃ r ms, exec (.byteReceived b) s = .next { s with link := ({ s.link with receiver := r, byteTimer := ms } : Link).begin } ∧
      match s.link.receiver with
      | .hunt => if b = 0xC3 then r = .lengthFirst ∧ ms = some 3 else r = .hunt ∧ ms = none
      | .lengthFirst => r = .lengthSecond b ∧ ms = some 3
      | .lengthSecond low =>
        if 4 ≤ low.toNat + 256 * b.toNat ∧ low.toNat + 256 * b.toNat ≤ 240 then
          r = .body (low.toNat + 256 * b.toNat) [] ∧ ms = some 3
        else if low = 0xC3 then r = .lengthSecond b ∧ ms = some 3
        else if b = 0xC3 then r = .lengthFirst ∧ ms = some 3
        else r = .hunt ∧ ms = none
      | .body n got =>
        (if got.length + 1 = n then r = .checkFirst (got ++ [b]) else r = .body n (got ++ [b])) ∧ ms = some 3
      | .checkFirst got => r = .checkSecond got b ∧ ms = some 3
      | .checkSecond _ _ => False

/-- The last check byte ends the frame: the receiver hunts again, and the frame is discarded, buffered, refused LINK_BUSY or
dropped (R178). The byte has the same effect under either name of its arrival.
The model's choice: log entry 19. -/
def Obligations.FrameEndJudgesTheCheck : Prop :=
  ∀ (b low : Byte) (got : List Byte) (s : State), s.link.receiver = .checkSecond got low →
    ∃ l : Link, exec (.frameReceived b) s = .next { s with link := l.begin } ∧
      exec (.byteReceived b) s = .next { s with link := l.begin } ∧
      l.receiver = .hunt ∧ l.byteTimer = none ∧
      l = { s.link with
            receiver := l.receiver, byteTimer := l.byteTimer, input := l.input, replies := l.replies, dropped := l.dropped } ∧
      (if wordOf low b ≠ checkOf got then l.input = s.link.input ∧ l.replies = s.link.replies ∧ l.dropped = s.link.dropped
       else if s.link.input.length < 4 then
        l.input = s.link.input ++ [⟨wordOf (got.getD 0 0) (got.getD 1 0), wordOf (got.getD 2 0) (got.getD 3 0), got.drop 4⟩] ∧
        l.replies = s.link.replies ∧ l.dropped = s.link.dropped
       else if (s.link.replies.filter (·.busy)).length < 4 then
        l.input = s.link.input ∧ l.dropped = s.link.dropped ∧
        l.replies = s.link.replies ++
          [⟨true, replyKind (wordOf (got.getD 0 0) (got.getD 1 0)), wordOf (got.getD 2 0) (got.getD 3 0),
            .refused .linkBusy (wordOf (got.getD 0 0) (got.getD 1 0)) 4 none⟩]
       else
        l.input = s.link.input ∧ l.replies = s.link.replies ∧ l.dropped = min 255 (s.link.dropped + 1))

/-- The inter-byte timer, when it runs, discards the frame under reception and changes nothing else (R177). A timer that does not
run does not expire: the event then changes nothing.
The model's choice, on the timer that does not run: log entry 4. -/
def Obligations.GapDiscardsTheFrame : Prop :=
  ∀ s : State,
    (s.link.byteTimer ≠ none →
      exec .interByteTimeout s = .next { s with link := { s.link with receiver := .hunt, byteTimer := none } }) ∧
    (s.link.byteTimer = none → exec .interByteTimeout s = .next s)

/-- The last byte of a frame has been sent: a reply leaves the reply list, and the next frame begins, the oldest reply before the
oldest report, which takes the marker with it; while restart pending is set no report begins (R182, R183, R185), and once the
RESTART reply has gone nothing begins before the restart. With no reply left and a frame in the input buffer the line stays free for
that frame's take, which comes at this moment (R179), and its reply.
The model's choices: log entries 5 and 23. -/
def Obligations.FrameSentBeginsTheNext : Prop :=
  ∀ (f : LineFrame) (s : State), s.link.line = some f →
    ∃ l : Link, exec .frameSent s = .next { s with link := l } ∧
      l = { s.link with line := l.line, replies := l.replies, reports := l.reports, lost := l.lost } ∧
      l.replies = (if f.isReply then s.link.replies.drop 1 else s.link.replies) ∧
      (if s.link.restartPending = true ∧ (∀ r ∈ l.replies, r.busy = true) then
        l.line = none ∧ l.reports = s.link.reports ∧ l.lost = s.link.lost
       else match l.replies, s.link.reports with
        | r :: _, _ => l.line = some ⟨true, frameOf r.body⟩ ∧ l.reports = s.link.reports ∧ l.lost = s.link.lost
        | [], [] => l.line = none ∧ l.reports = [] ∧ l.lost = s.link.lost
        | [], p :: rest =>
          if s.link.input = [] then l.line = some ⟨false, frameOf (p.body s.link.lost)⟩ ∧ l.reports = rest ∧ l.lost = false
          else l.line = none ∧ l.reports = s.link.reports ∧ l.lost = s.link.lost)

/-- The receiver finds in the bytes of a frame the frame they were made from: start byte, length, kind, tag, body and check as
R174 and R175 lay them out, whatever the bytes of the body. -/
def Obligations.SentFrameIsReceived : Prop :=
  ∀ (kind tag : Word) (rest : List Byte) (l : Link),
    rest.length ≤ 236 → l.receiver = .hunt → l.input.length < 4 →
    (frameOf (bytes16 kind ++ bytes16 tag ++ rest)).foldl Link.receive l =
      { l with receiver := .hunt, byteTimer := none, input := l.input ++ [⟨kind, tag, rest⟩] }

/-- Every step keeps the link within its bounds, its receiver and timer together, and a frame on the line whenever a reply waits,
or a report with no frame in the input buffer (R173, R176, R177, R178, R179, R182, R183).
The model's choice: log entry 5. -/
def Obligations.StepKeepsLinkSound : Prop :=
  ∀ s t : State, LinkSound s → step s = .next t → LinkSound t

/-- A taken request passes the three general tests, in their order, and the first that fails decides the reply and leaves all but
the link as it was (R180, R181); a frame that may not be taken waits (R179).
The model's choice: log entry 5. -/
def Obligations.GeneralTestsJudgeEveryRequest : Prop :=
  ∀ (c : Instr) (f : Frame) (s : State), requestFrame c = some f →
    (¬ Takeable s f → exec c s = .next s) ∧
    (Takeable s f → (f.kind.toNat = 0 ∨ 23 < f.kind.toNat) →
      ∃ t, exec c s = .next t ∧ t = { s with link := t.link } ∧
        Answered s t f (.refused .badKind f.kind f.kind.toNat none) []) ∧
    (Takeable s f → 1 ≤ f.kind.toNat → f.kind.toNat ≤ 23 → (∀ k g b, c ≠ .unknownKindRequest k g b) → ¬ FitsKind f →
      ∃ t, exec c s = .next t ∧ t = { s with link := t.link } ∧
        Answered s t f (.refused .badLength f.kind (4 + f.body.length) none) []) ∧
    (Takeable s f → 1 ≤ f.kind.toNat → f.kind.toNat ≤ 23 → (∀ k g b, c ≠ .unknownKindRequest k g b) → FitsKind f →
      s.test.running = true → ¬ ReadingKind f.kind →
      ∃ t, exec c s = .next t ∧ t = { s with link := t.link } ∧
        Answered s t f (.refused .testRunning f.kind (s.test.item.1 * 256 + s.test.item.2) none) [])

/-- The seven reading requests answer in every job state and during a self-test, and change nothing but the link (R20, R44, R79,
R93, R98, R184, R192). -/
def Obligations.ReadingRequestsAnswer : Prop :=
  ∃ letter : Byte, 65 ≤ letter.toNat ∧ letter.toNat ≤ 90 ∧ ∀ (tag : Word) (i : Byte) (s : State),
    (Takeable s ⟨0x0001, tag, []⟩ → ∃ t, exec (.identify tag []) s = .next t ∧ t = { s with link := t.link } ∧
      Answered s t ⟨0x0001, tag, []⟩
        (.identity ⟨0x0E21, [0x54, 0x4C, 0x2D, 0x34, 0x34, 0x30], letter, 64, 128, 32, 4, 3⟩) []) ∧
    (Takeable s ⟨0x0002, tag, []⟩ → ∃ t, exec (.readStatus tag []) s = .next t ∧ t = { s with link := t.link } ∧
      Answered s t ⟨0x0002, tag, []⟩
        (.status
          { job := ⟨s.job.state, s.job.phase, s.job.endReason, s.job.halt, s.job.pausePending,
              (s.queue.slots.findIdx? fun x => x.state == .active || x.state == .faulted).map
                fun k => (s.queue.oldest + k) % 64⟩
            p := s.travel.p, target := s.travel.target, pos := s.travel.state, drive := s.travel.drive
            reversals := s.travel.reversals
            units := ⟨(s.units.lo.state, s.units.lo.waiting), (s.units.li.state, s.units.li.waiting),
              (s.units.ri.state, s.units.ri.waiting), (s.units.ro.state, s.units.ro.waiting)⟩
            lluState := s.llu.state, lluWaiting := s.llu.waiting, lluRetreat := s.llu.retreat
            gateOpen := s.llu.state == .atDemand || s.llu.state == .holding
            table := s.table.state, granted := s.arb.granted, waiting := s.arb.waiting, slots := s.arb.slots
            retreatMode := s.arb.retreatMode, stopLine := s.field.stopLine
            test := if s.test.running then some s.test.item else none
            framesWaiting := s.link.input.length - 1, reports := s.link.reports.length, lost := s.link.lost
            dropped := s.link.dropped }) []) ∧
    (Takeable s ⟨0x0004, tag, []⟩ → ∃ t, exec (.readParameters tag []) s = .next t ∧ t = { s with link := t.link } ∧
      Answered s t ⟨0x0004, tag, []⟩ (.parameters s.params.values) []) ∧
    (Takeable s ⟨0x0007, tag, []⟩ → ∃ t n, exec (.readQueue tag []) s = .next t ∧ t = { s with link := t.link } ∧
      n = s.queue.slots.length ∧
      Answered s t ⟨0x0007, tag, []⟩
        (.queue
          { counts := [64 - n, s.queue.countOf .ready, s.queue.countOf .active, s.queue.countOf .faulted,
              s.queue.countOf .done, s.queue.countOf .partDone, s.queue.countOf .skipped, s.queue.countOf .aborted]
            oldest := if n = 0 then none else some s.queue.oldest
            active := (s.queue.slots.findIdx? fun x => x.state == .active || x.state == .faulted).map
              fun k => (s.queue.oldest + k) % 64
            tail := (s.queue.oldest + n) % 64
            lastNumber := s.queue.slots.getLast?.map (·.entry.number)
            newest := s.queue.slots.getLast?.map fun x => (x.entry.joinedNext, x.chainPos) }) []) ∧
    (Takeable s ⟨0x0013, tag, [i]⟩ → ∃ t, exec (.readTable tag [i]) s = .next t ∧ t = { s with link := t.link } ∧
      Answered s t ⟨0x0013, tag, [i]⟩
        (.table ⟨s.table.state, s.table.declared, s.table.segments.length, s.table.segments.length, s.table.check,
          s.table.segments[i.toNat]?⟩) []) ∧
    (Takeable s ⟨0x0014, tag, []⟩ → ∃ t, exec (.readMeasurement tag []) s = .next t ∧ t = { s with link := t.link } ∧
      Answered s t ⟨0x0014, tag, []⟩ (.measurement s.meas.channels s.travel.p) []) ∧
    (Takeable s ⟨0x0015, tag, [i]⟩ → ∃ t, exec (.readTrail tag [i]) s = .next t ∧ t = { s with link := t.link } ∧
      Answered s t ⟨0x0015, tag, [i]⟩
        (.trail s.trail.records.length s.trail.count ((s.trail.records.drop i.toNat).take 16)) [])

/-! ## The Work Queue -/

/-- An accepted load: the entry stands in the tail slot with its setpoints at the nearer bounds, and the reply names slot, chain
position and clamped fields (R4, R8, R10, R12, R195). It waits there READY and nothing else changes (R13); but in STARVED it is
activated at once (R28, R33), and while the LLU holds the track with no entry active it takes the held record over, its used
units shift, and nothing travels (R29, R33, R65). Without used units its work ends at once: the LLU releases, or holds on with the
entry finished (R29, R31).
The model's choice: log entry 6. -/
def Obligations.LoadStoresTheEntry : Prop :=
  ∀ (tag : Word) (body : List Byte) (s : State), Takeable s ⟨0x0005, tag, body⟩ → loadFits body = true →
    s.test.running = false →
    s.queue.slots.length < 64 → NumberInOrder s.queue (decodeEntry body) → ChainInOrder s.queue (decodeEntry body) →
    (decodeEntry body).distance ≤ 2500 →
    ∃ t x, exec (.loadEntry tag body) s = .next t ∧ StoredAs (decodeEntry body) x.entry ∧
      x = ⟨.ready, x.entry, s.queue.newChainPos, 0, none, none, none⟩ ∧
      (¬ LoadActivates s ∨
        ((∀ y ∈ s.queue.slots, y.state ≠ .ready) ∧ (s.llu.state ≠ .holding ∨ ∃ u, (x.entry.units.get u).mask ≠ 0)) →
        Answered s t ⟨0x0005, tag, body⟩
          (.loaded ((s.queue.oldest + s.queue.slots.length) % 64) s.queue.newChainPos
            (((decodeEntry body).setpoints.filter (·.outside)).map (·.code))) []) ∧
      (¬ LoadActivates s → DriveSound s →
        t = { s with link := t.link, queue := { s.queue with slots := s.queue.slots ++ [x] } }) ∧
      (s.job.state = .running → s.job.phase = some .starved → (∀ y ∈ s.queue.slots, y.state ≠ .ready) →
        s.llu.state ≠ .holding →
        Activated { s with queue := { s.queue with slots := s.queue.slots ++ [x] } } t s.queue.slots.length x s.travel.p ∧
        t = { s with
          link := t.link, queue := t.queue, job := { s.job with phase := some .positioning, done := t.job.done }, llu := t.llu
          units := t.units, arb := t.arb, travel := t.travel, field := t.field } ∧
        t.travel.drive = t.driveDue ∧
        t.field = { s.field with
          sent := s.field.sent ++ (if s.travel.drive = t.driveDue then [] else [.drive t.driveDue]) }) ∧
      (∀ c w, s.job.state = .running → s.job.phase = some .holding → NoneWorking s.queue →
        (∀ y ∈ s.queue.slots, y.state ≠ .ready) → s.llu.state = .holding → s.engine = .held c →
        w = ({ s with queue := { s.queue with slots := s.queue.slots ++ [x] } } : State).continued s.queue.slots.length x c →
        ((∃ u, (x.entry.units.get u).mask ≠ 0) → Settled w t) ∧
        ((∀ u, (x.entry.units.get u).mask = 0) →
          (x.entry.joinedNext = false → Settled w.workReleased t ∧
            Answered s t ⟨0x0005, tag, body⟩
              (.loaded ((s.queue.oldest + s.queue.slots.length) % 64) s.queue.newChainPos
                (((decodeEntry body).setpoints.filter (·.outside)).map (·.code))) []) ∧
          (x.entry.joinedNext = true →
            ∃ r, WorkedResult w s.queue.slots.length (x.tookOver c) none false r ∧
              Settled
                (w.workHeld s.queue.slots.length (x.tookOver c) r (min (s.job.base + x.entry.distance) 4000000)) t ∧
              Answered s t ⟨0x0005, tag, body⟩
                (.loaded ((s.queue.oldest + s.queue.slots.length) % 64) s.queue.newChainPos
                  (((decodeEntry body).setpoints.filter (·.outside)).map (·.code)))
                [.entryFinished r.slot r.number r.final])))

/-- R11: the distance is tested last, up to 2,500 mm passes and is stored as sent, more is refused DISTANCE with the value as
detail, and a continuation that far away is refused JOIN_MISMATCH with detail 1. -/
def Obligations.DistanceIsTestedLast : Prop :=
  ∀ (tag : Word) (body : List Byte) (s : State), Takeable s ⟨0x0005, tag, body⟩ → loadFits body = true →
    s.test.running = false → s.queue.slots.length < 64 →
    (NumberInOrder s.queue (decodeEntry body) → ChainInOrder s.queue (decodeEntry body) →
      ((decodeEntry body).distance ≤ 2500 →
        ∃ t x slot pos codes, exec (.loadEntry tag body) s = .next t ∧
          t.queue.slots.length = s.queue.slots.length + 1 ∧ t.queue.slots.getLast? = some x ∧
          x.entry.distance = (decodeEntry body).distance ∧
          t.link.replies = s.link.replies ++ [⟨false, 0x0085, tag, .loaded slot pos codes⟩]) ∧
      (2500 < (decodeEntry body).distance →
        ∃ t, exec (.loadEntry tag body) s = .next t ∧ t = { s with link := t.link } ∧
          Answered s t ⟨0x0005, tag, body⟩ (.refused .distance 0x0005 (decodeEntry body).distance none) [])) ∧
    (s.queue.reference.2.1 = true → NumberInOrder s.queue (decodeEntry body) → 2500 < (decodeEntry body).distance →
      ∃ t, exec (.loadEntry tag body) s = .next t ∧ t = { s with link := t.link } ∧
        Answered s t ⟨0x0005, tag, body⟩ (.refused .joinMismatch 0x0005 1 none) []) ∧
    (∀ t kind detail relation, exec (.loadEntry tag body) s = .next t →
      Answered s t ⟨0x0005, tag, body⟩ (.refused .distance kind detail relation) [] →
      NumberInOrder s.queue (decodeEntry body) ∧ ChainInOrder s.queue (decodeEntry body))

/-- The tests of a load in their order, before that of the distance: a full queue, the sleeper number, the chain; a refused load
changes nothing but the link (R8, R9, R10). -/
def Obligations.LoadRefusalsInOrder : Prop :=
  ∀ (tag : Word) (body : List Byte) (s : State), Takeable s ⟨0x0005, tag, body⟩ → loadFits body = true →
    s.test.running = false →
    (64 ≤ s.queue.slots.length →
      ∃ t, exec (.loadEntry tag body) s = .next t ∧ t = { s with link := t.link } ∧
        Answered s t ⟨0x0005, tag, body⟩ (.refused .queueFull 0x0005 64 none) []) ∧
    (s.queue.slots.length < 64 → ¬ NumberInOrder s.queue (decodeEntry body) →
      ∃ t, exec (.loadEntry tag body) s = .next t ∧ t = { s with link := t.link } ∧
        Answered s t ⟨0x0005, tag, body⟩
          (.refused .sequence 0x0005 s.queue.reference.1 (some (if s.queue.reference.2.1 then .equal else .greater))) []) ∧
    (∀ detail, s.queue.slots.length < 64 → NumberInOrder s.queue (decodeEntry body) →
      FirstChainFault s.queue (decodeEntry body) detail →
      ∃ t, exec (.loadEntry tag body) s = .next t ∧ t = { s with link := t.link } ∧
        Answered s t ⟨0x0005, tag, body⟩ (.refused .joinMismatch 0x0005 detail none) [])

/-- The layouts of R194 lose nothing: the entry and the segment read from a body are those it was made from, with every field at
every value its width admits, and every optional field present or absent; an absent one is read as 0 (R3), and the branch offset
stands in the body exactly with HOOK (R195). -/
def Obligations.RequestBodiesRoundTrip : Prop :=
  (∀ (front lift curv cant : Bool) (e : Entry), (front = false → e.frontOffset = 0) → (lift = false → e.frontLift = 0) →
    (curv = false → e.localCurv = 0) → (cant = false → e.localCant = 0) → e.number < 65536 → e.distance < 65536 → e.hook = e.branch.isSome →
    (∀ u, (e.units.get u).mask < 16 ∧ (e.units.get u).insertions < 256) →
    (∀ x ∈ e.setpoints, -32768 ≤ x.value ∧ x.value ≤ 32767) →
    loadFits (encodeEntry front lift curv cant e) = true ∧ decodeEntry (encodeEntry front lift curv cant e) = e) ∧
  (∀ g : Segment, g.index < 256 → -2147483648 ≤ g.start → g.start ≤ 2147483647 → -2147483648 ≤ g.length →
    g.length ≤ 2147483647 →
    (∀ x ∈ [g.k0, g.k1, g.cant0, g.cant1], -32768 ≤ x ∧ x ≤ 32767) →
    (segmentBytes g).length = 18 ∧ (decodeSegment (segmentBytes g)).stored = some g)

/-- COLLECT RESULTS takes finished slots from the oldest end, up to 6, and stops where R19 says; their results go out in order,
the oldest index passes them, and nothing else changes but the link. While a release without an active slot is under way, it stops
before the held entry, read as the finished slot with no finished slot behind it.
The model's choice, on which slot is the held entry's: log entry 15. -/
def Obligations.CollectionFreesTheOldest : Prop :=
  ∀ (tag : Word) (s : State), Takeable s ⟨0x0006, tag, []⟩ → s.test.running = false →
    ∃ t held taken rest more, exec (.collectResults tag []) s = .next t ∧
      (held = true ↔ s.job.state = .running ∧ s.job.phase = some .releasing ∧
        ∀ x ∈ s.queue.slots, x.state ≠ .active ∧ x.state ≠ .faulted) ∧
      s.queue.slots = taken ++ rest ∧ taken.length ≤ 6 ∧ CollectionTakes held taken rest ∧
      (taken.length = 6 ∨ CollectionStops held rest) ∧ (more = true ↔ ¬ CollectionStops held rest) ∧
      t = { s with link := t.link, queue := ⟨(s.queue.oldest + taken.length) % 64, rest⟩ } ∧
      Answered s t ⟨0x0006, tag, []⟩ (.collected (taken.filterMap (·.result)) more) []

/-- CLEAR QUEUE in IDLE frees every slot, whatever its state, and answers how many were occupied (R21). -/
def Obligations.ClearFreesEverySlot : Prop :=
  ∀ (tag : Word) (s : State), Takeable s ⟨0x0008, tag, []⟩ → s.test.running = false → s.job.state = .idle →
    ∃ t, exec (.clearQueue tag []) s = .next t ∧ t = { s with link := t.link, queue := ⟨0, []⟩ } ∧
      Answered s t ⟨0x0008, tag, []⟩ (.cleared s.queue.slots.length) []

/-- Every step keeps the ring in order: sleeper numbers never fall from the oldest slot to the newest, equal neighbours are
joined, no chain has more than 3 entries, and no entry carries both JOINED_NEXT and END; finished slots stand first, then at most
one ACTIVE or FAULTED slot, then READY slots; and which of the two it is, or that there is none, goes with the job's state and
phase (R4, R5, R9, R10, R14, R23, R24, R37). -/
def Obligations.StepKeepsQueueInOrder : Prop :=
  ∀ s t : State, QueueSound s → step s = .next t → QueueSound t

/-! ## The job -/

/-- START JOB, its five tests passed: P and the position base are 0, the trail and the halt record are empty, the job is RUNNING and
the oldest READY entry is activated, in POSITIONING; the reply names its slot and the JOB STATE report shows the phase (R27, R28,
R107, R123).
The model's choice: log entry 6. -/
def Obligations.StartBeginsAtTheOldestReady : Prop :=
  ∀ (tag : Word) (s : State) (k : Nat) (x : Slot), Takeable s ⟨0x0009, tag, []⟩ → s.test.running = false →
    s.job.state = .idle → OldestReady s.queue k x → NoneWorking s.queue → AtPark s →
    (s.params.mode = .localMode ∨ s.table.state = .valid) →
    ∃ t, exec (.startJob tag []) s = .next t ∧
      Activated { s with job := { s.job with base := 0 } } t k x 0 ∧
      t.travel.drive = wantedDrive t.travel.state ∧
      t.job = { s.job with
                state := .running, phase := some .positioning, pausePending := false, base := 0, halt := none
                endReason := .none, done := t.job.done } ∧
      t.trail = ⟨[], 0⟩ ∧ t.params = s.params ∧ t.engine = s.engine ∧ t.table = s.table ∧ t.meas = s.meas ∧ t.test = s.test ∧
      t.field = { s.field with
        sent := s.field.sent ++ (if s.travel.drive = t.travel.drive then [] else [.drive t.travel.drive]) } ∧
      t.pending = s.pending ∧
      Answered s t ⟨0x0009, tag, []⟩ (.started ((s.queue.oldest + k) % 64))
        [.jobState ⟨.running, some .positioning, .none, none, false, some ((s.queue.oldest + k) % 64)⟩]

/-- The requests that a job state does not let through are refused WRONG_STATE and change nothing but the link. The detail is the
job state, and 0 for SKIP ENTRY, ABORT JOB and PARK ALL, whose rules name no detail (R21, R27, R35, R36, R39, R40, R41, R42, R43,
R185, R187, R181). The model's reading, on the detail 0: log entry 35. -/
def Obligations.WrongJobStateRefuses : Prop :=
  ∀ (c : Instr) (f : Frame) (s : State), requestFrame c = some f → Takeable s f → FitsKind f → s.test.running = false →
    ((f.kind.toNat ∈ [0x03, 0x08, 0x09, 0x16, 0x17] ∧ s.job.state ≠ .idle) ∨
     (f.kind.toNat = 0x0A ∧ s.job.state ≠ .running) ∨ (f.kind.toNat = 0x0B ∧ s.job.state ≠ .paused) ∨
     (f.kind.toNat ∈ [0x0C, 0x0D] ∧ s.job.state ≠ .halted) ∨ (f.kind.toNat = 0x0E ∧ s.job.state = .idle) ∨
     (f.kind.toNat = 0x0F ∧ s.job.state ≠ .idle ∧ s.job.state ≠ .halted) ∨
     (f.kind.toNat = 0x0C ∧ ∀ x ∈ s.queue.slots, x.state ≠ .active ∧ x.state ≠ .faulted)) →
    (∀ k g b, c ≠ .unknownKindRequest k g b) →
    ∃ t, exec c s = .next t ∧ t = { s with link := t.link } ∧
      Answered s t f
        (.refused .wrongState f.kind (if f.kind.toNat ∈ [0x0D, 0x0E, 0x0F] then 0 else jobCode s.job.state) none) []

/-- The further tests of START JOB, RETRY ENTRY, SKIP ENTRY and SELF TEST in their order: an empty queue, a unit, the LLU or the
stop line not at park by its detail, no VALID table, and the fourth retry (R27, R39, R40, R187). -/
def Obligations.StartAndRecoveryRefusals : Prop :=
  ∀ (tag : Word) (s : State) (d : Nat), s.test.running = false →
    (Takeable s ⟨0x0009, tag, []⟩ → s.job.state = .idle → (∀ x ∈ s.queue.slots, x.state ≠ .ready) →
      ∃ t, exec (.startJob tag []) s = .next t ∧ t = { s with link := t.link } ∧
        Answered s t ⟨0x0009, tag, []⟩ (.refused .empty 0x0009 0 none) []) ∧
    (Takeable s ⟨0x0009, tag, []⟩ → s.job.state = .idle → (∃ x ∈ s.queue.slots, x.state = .ready) → FirstNotParked s d →
      ∃ t, exec (.startJob tag []) s = .next t ∧ t = { s with link := t.link } ∧
        Answered s t ⟨0x0009, tag, []⟩ (.refused .notParked 0x0009 d none) []) ∧
    (Takeable s ⟨0x0009, tag, []⟩ → s.job.state = .idle → (∃ x ∈ s.queue.slots, x.state = .ready) → AtPark s →
      s.params.mode = .design → s.table.state ≠ .valid →
      ∃ t, exec (.startJob tag []) s = .next t ∧ t = { s with link := t.link } ∧
        Answered s t ⟨0x0009, tag, []⟩ (.refused .noTable 0x0009 (tableCode s.table.state) none) []) ∧
    (∀ k x, Takeable s ⟨0x000C, tag, []⟩ → s.job.state = .halted → OnlyWorking s.queue k x → x.state = .faulted →
      FirstNotParked s d →
      ∃ t, exec (.retryEntry tag []) s = .next t ∧ t = { s with link := t.link } ∧
        Answered s t ⟨0x000C, tag, []⟩ (.refused .notParked 0x000C d none) []) ∧
    (∀ k x, Takeable s ⟨0x000C, tag, []⟩ → s.job.state = .halted → OnlyWorking s.queue k x → x.state = .faulted →
      AtPark s → 3 ≤ x.retries →
      ∃ t, exec (.retryEntry tag []) s = .next t ∧ t = { s with link := t.link } ∧
        Answered s t ⟨0x000C, tag, []⟩ (.refused .retryLimit 0x000C x.retries none) []) ∧
    (Takeable s ⟨0x000D, tag, []⟩ → s.job.state = .halted → FirstNotParked s d →
      ∃ t, exec (.skipEntry tag []) s = .next t ∧ t = { s with link := t.link } ∧
        Answered s t ⟨0x000D, tag, []⟩ (.refused .notParked 0x000D d none) []) ∧
    (∀ g i : Byte, Takeable s ⟨0x0016, tag, [g, i]⟩ → s.job.state = .idle →
      ¬ (g.toNat = 0 ∧ i.toNat = 0 ∨ g.toNat = 1 ∧ i.toNat ≤ 6 ∨ g.toNat = 2 ∧ i.toNat ≤ 9 ∨ g.toNat = 3 ∧ i.toNat ≤ 2) →
      ∃ t, exec (.selfTest tag [g, i]) s = .next t ∧ t = { s with link := t.link } ∧
        Answered s t ⟨0x0016, tag, [g, i]⟩ (.refused .wrongState 0x0016 (g.toNat * 256 + i.toNat) none) []) ∧
    (∀ g i : Byte, Takeable s ⟨0x0016, tag, [g, i]⟩ → s.job.state = .idle →
      (g.toNat = 0 ∧ i.toNat = 0 ∨ g.toNat = 1 ∧ i.toNat ≤ 6 ∨ g.toNat = 2 ∧ i.toNat ≤ 9 ∨ g.toNat = 3 ∧ i.toNat ≤ 2) →
      FirstNotParked s d →
      ∃ t, exec (.selfTest tag [g, i]) s = .next t ∧ t = { s with link := t.link } ∧
        Answered s t ⟨0x0016, tag, [g, i]⟩ (.refused .notParked 0x0016 d none) [])

/-- PAUSE JOB in POSITIONING or STARVED takes effect at once, with the phase kept, the Positioner IDLE and the drive STOP; in any
other phase it sets pause pending and nothing else (R35). -/
def Obligations.PauseStopsOrWaits : Prop :=
  ∀ (tag : Word) (s : State), Takeable s ⟨0x000A, tag, []⟩ → s.test.running = false → s.job.state = .running →
    (s.job.phase = some .positioning ∨ s.job.phase = some .starved →
      ∃ t, exec (.pauseJob tag []) s = .next t ∧
        t = { s with
          link := t.link, job := { s.job with state := .paused }
          travel := { s.travel with state := .idle, settle := none, drive := .stop }
          field := { s.field with sent := s.field.sent ++ (if s.travel.drive = .stop then [] else [.drive .stop]) } } ∧
        Answered s t ⟨0x000A, tag, []⟩ (.paused s.job.phase)
          [.jobState ⟨.paused, s.job.phase, s.job.endReason, s.job.halt, s.job.pausePending, s.queue.activeIndex⟩]) ∧
    (s.job.phase ≠ some .positioning → s.job.phase ≠ some .starved →
      ∃ t, exec (.pauseJob tag []) s = .next t ∧
        t = { s with link := t.link, job := { s.job with pausePending := true } } ∧
        Answered s t ⟨0x000A, tag, []⟩ (.paused s.job.phase) [])

/-- RESUME JOB makes the job RUNNING, and the phase decides the rest: POSITIONING starts anew from P toward the same T; STARVED and
an absent phase activate the oldest READY entry, or stand STARVED with the Positioner IDLE (R36, R32, R107). Its report shows the
phase that results.
The model's choices: log entries 6 and 13. -/
def Obligations.ResumeGoesOnByPhase : Prop :=
  ∀ (tag : Word) (s : State), Takeable s ⟨0x000B, tag, []⟩ → s.test.running = false → s.job.state = .paused →
    (∀ goal, s.job.phase = some .positioning → s.travel.target = some goal →
      ∃ t, exec (.resumeJob tag []) s = .next t ∧ t.job = { s.job with state := .running } ∧
        Positioned s.params s.travel.p goal t.travel ∧
        t = { s with link := t.link, job := t.job, travel := t.travel, field := t.field } ∧ t.travel.drive = t.driveDue ∧
        t.field = { s.field with
          sent := s.field.sent ++ (if s.travel.drive = t.travel.drive then [] else [.drive t.travel.drive]) } ∧
        Answered s t ⟨0x000B, tag, []⟩ .accepted
          [.jobState ⟨.running, s.job.phase, s.job.endReason, s.job.halt, s.job.pausePending, s.queue.activeIndex⟩]) ∧
    (s.job.phase = some .starved ∨ s.job.phase = none → s.travel.state = .idle → s.travel.settle = none →
      (∀ x ∈ s.queue.slots, x.state ≠ .ready) →
      ∃ t, exec (.resumeJob tag []) s = .next t ∧
        t = { s with
          link := t.link, job := { s.job with state := .running, phase := some .starved }
          travel := { s.travel with drive := .stop }
          field := { s.field with sent := s.field.sent ++ (if s.travel.drive = .stop then [] else [.drive .stop]) } } ∧
        Answered s t ⟨0x000B, tag, []⟩ .accepted
          [.jobState ⟨.running, some .starved, s.job.endReason, s.job.halt, s.job.pausePending, s.queue.activeIndex⟩]) ∧
    (∀ k x, s.job.phase = some .starved ∨ s.job.phase = none → OldestReady s.queue k x → NoneWorking s.queue →
      s.llu.state = .isOpen →
      ∃ t, exec (.resumeJob tag []) s = .next t ∧ Activated s t k x s.travel.p ∧
        t.job = { s.job with state := .running, phase := some .positioning, done := t.job.done } ∧
        t.params = s.params ∧ t.engine = s.engine ∧ t.table = s.table ∧ t.meas = s.meas ∧ t.trail = s.trail ∧
        t.test = s.test ∧ t.pending = s.pending ∧ t.travel.drive = t.driveDue ∧
        t.field = { s.field with
          sent := s.field.sent ++ (if s.travel.drive = t.travel.drive then [] else [.drive t.travel.drive]) } ∧
        Answered s t ⟨0x000B, tag, []⟩ .accepted
          [.jobState ⟨.running, some .positioning, s.job.endReason, s.job.halt, s.job.pausePending,
            some ((s.queue.oldest + k) % 64)⟩])

/-- RETRY ENTRY works the FAULTED entry again: its RETRY count rises, the job is RUNNING, the retreat mode is clear, and the entry
is activated afresh from the same position base (R39, R28).
The model's choices: log entries 6 and 13 (its report is placed after the activation). -/
def Obligations.RetryWorksTheEntryAgain : Prop :=
  ∀ (tag : Word) (s : State) (k : Nat) (x : Slot), Takeable s ⟨0x000C, tag, []⟩ → s.test.running = false →
    s.job.state = .halted → OnlyWorking s.queue k x → x.state = .faulted → AtPark s → x.retries < 3 →
    ∃ t, exec (.retryEntry tag []) s = .next t ∧
      Activated { s with arb := { s.arb with retreatMode := false } } t k { x with retries := x.retries + 1 } s.travel.p ∧
      t.job = { s.job with state := .running, phase := some .positioning, done := t.job.done } ∧
      t.params = s.params ∧ t.engine = s.engine ∧ t.table = s.table ∧ t.meas = s.meas ∧ t.trail = s.trail ∧ t.test = s.test ∧
      t.pending = s.pending ∧ t.travel.drive = wantedDrive t.travel.state ∧
      t.field = { s.field with
        sent := s.field.sent ++ (if s.travel.drive = t.travel.drive then [] else [.drive t.travel.drive]) } ∧
      Answered s t ⟨0x000C, tag, []⟩ .accepted
        [.jobState ⟨.running, some .positioning, s.job.endReason, s.job.halt, s.job.pausePending,
          some ((s.queue.oldest + k) % 64)⟩]

/-- SKIP ENTRY gives the FAULTED entry up: it finishes SKIPPED with the halt's first fault, with the correction of its slot copy
and what its working had reached when the job halted (R16, R17, R18); its residual is formed from the slot copy and the channels'
current values or is missing, the trail record stands at C or at T, and the position base becomes T; then the job is COMPLETED
behind an END entry, pauses, starves, or activates the oldest READY entry. With no slot FAULTED no entry finishes, and the job
starves or activates the oldest READY entry (R40, R32, R96).
The model's choices: log entries 6, 13 (with no slot FAULTED its report is placed before tests 4 and 5) and 17. -/
def Obligations.SkipGivesTheEntryUp : Prop :=
  ∀ (tag : Word) (s : State), Takeable s ⟨0x000D, tag, []⟩ → s.test.running = false → s.job.state = .halted → AtPark s →
    (NoneWorking s.queue →
      (s.travel.state = .idle → s.travel.settle = none → (∀ y ∈ s.queue.slots, y.state ≠ .ready) →
        ∃ t, exec (.skipEntry tag []) s = .next t ∧
          t = { s with
            link := t.link, arb := { s.arb with retreatMode := false }
            job := { s.job with state := .running, phase := some .starved }
            travel := { s.travel with drive := .stop }, field := { s.field with sent := s.field.sent ++ s.stopOrders } } ∧
          Answered s t ⟨0x000D, tag, []⟩ .accepted
            [.jobState ⟨.running, s.job.phase, s.job.endReason, s.job.halt, s.job.pausePending, none⟩]) ∧
      (∀ j y, OldestReady s.queue j y →
        ∃ t, exec (.skipEntry tag []) s = .next t ∧
          Activated { s with arb := { s.arb with retreatMode := false } } t j y s.travel.p ∧
          t.trail = s.trail ∧ t.job = { s.job with state := .running, phase := some .positioning, done := t.job.done } ∧
          t.params = s.params ∧ t.engine = s.engine ∧ t.table = s.table ∧ t.meas = s.meas ∧ t.test = s.test ∧
          t.pending = s.pending ∧ t.travel.drive = wantedDrive t.travel.state ∧
          t.field = { s.field with
            sent := s.field.sent ++ (if s.travel.drive = t.travel.drive then [] else [.drive t.travel.drive]) } ∧
          Answered s t ⟨0x000D, tag, []⟩ .accepted
            [.jobState ⟨.running, s.job.phase, s.job.endReason, s.job.halt, s.job.pausePending, none⟩])) ∧
    ∀ (k : Nat) (x : Slot) (goal : Int), OnlyWorking s.queue k x → x.state = .faulted → s.travel.target = some goal →
    ∃ (r : Result) (q : WorkQueue) (trail : Trail) (res : Option (Int × Int)),
      res = (x.copy.bind fun c => residualOf c s.meas.channels) ∧
      r.number = x.entry.number ∧ r.slot = (s.queue.oldest + k) % 64 ∧ r.final = .skipped ∧ r.residual = res ∧
      r.residualMissing = res.isNone ∧ r.fault = s.job.halt.map (·.first) ∧ r.retries = x.retries ∧
      CorrectionPart x r ∧
      (∀ kept, x.kept = some kept → r.units = kept.units ∧ AchievedPart x.entry kept.achieved r) ∧
      q = { s.queue with slots := s.queue.slots.set k { x with state := .skipped, result := some r } } ∧
      trail = s.trail.append ⟨(x.copy.map (·.c)).getD goal, res.map (·.1), res.map (·.2)⟩ ∧
      (x.entry.isEnd = true → s.travel.state = .idle → s.travel.settle = none →
        ∃ t, exec (.skipEntry tag []) s = .next t ∧
          t = { s with
            link := t.link, queue := q, trail := trail, arb := { s.arb with retreatMode := false }
            job := { s.job with state := .idle, phase := none, pausePending := false, base := goal, endReason := .completed }
            travel := { s.travel with drive := .stop }
            field := { s.field with sent := s.field.sent ++ (if s.travel.drive = .stop then [] else [.drive .stop]) } } ∧
          Answered s t ⟨0x000D, tag, []⟩ .accepted
            [.entryFinished r.slot r.number .skipped,
             .jobState ⟨.running, s.job.phase, s.job.endReason, s.job.halt, s.job.pausePending, none⟩,
             .jobState ⟨.idle, none, .completed, s.job.halt, false, none⟩]) ∧
      (x.entry.isEnd = false → s.job.pausePending = true → s.travel.state = .idle → s.travel.settle = none →
        ∃ t, exec (.skipEntry tag []) s = .next t ∧
          t = { s with
            link := t.link, queue := q, trail := trail, arb := { s.arb with retreatMode := false }
            job := { s.job with state := .paused, phase := none, pausePending := false, base := goal }
            travel := { s.travel with drive := .stop }, field := { s.field with sent := s.field.sent ++ s.stopOrders } } ∧
          Answered s t ⟨0x000D, tag, []⟩ .accepted
            [.entryFinished r.slot r.number .skipped,
             .jobState ⟨.running, s.job.phase, s.job.endReason, s.job.halt, true, none⟩,
             .jobState ⟨.paused, none, s.job.endReason, s.job.halt, false, none⟩]) ∧
      (x.entry.isEnd = false → s.job.pausePending = false → s.travel.state = .idle → s.travel.settle = none →
        (∀ y ∈ s.queue.slots, y.state ≠ .ready) →
        ∃ t, exec (.skipEntry tag []) s = .next t ∧
          t = { s with
            link := t.link, queue := q, trail := trail, arb := { s.arb with retreatMode := false }
            job := { s.job with state := .running, phase := some .starved, base := goal }
            travel := { s.travel with drive := .stop }
            field := { s.field with sent := s.field.sent ++ (if s.travel.drive = .stop then [] else [.drive .stop]) } } ∧
          Answered s t ⟨0x000D, tag, []⟩ .accepted
            [.entryFinished r.slot r.number .skipped,
             .jobState ⟨.running, s.job.phase, s.job.endReason, s.job.halt, false, none⟩]) ∧
      (∀ j y, x.entry.isEnd = false → s.job.pausePending = false → OldestReady s.queue j y →
        ∃ t, exec (.skipEntry tag []) s = .next t ∧
          Activated { s with queue := q, arb := { s.arb with retreatMode := false }, job := { s.job with base := goal } } t j y
            s.travel.p ∧
          t.trail = trail ∧
          t.job = { s.job with state := .running, phase := some .positioning, base := goal, done := t.job.done } ∧
          t.params = s.params ∧ t.engine = s.engine ∧ t.table = s.table ∧ t.meas = s.meas ∧ t.test = s.test ∧
          t.pending = s.pending ∧ t.travel.drive = wantedDrive t.travel.state ∧
          t.field = { s.field with
            sent := s.field.sent ++ (if s.travel.drive = t.travel.drive then [] else [.drive t.travel.drive]) } ∧
          Answered s t ⟨0x000D, tag, []⟩ .accepted
            [.entryFinished r.slot r.number .skipped,
             .jobState ⟨.running, s.job.phase, s.job.endReason, s.job.halt, false, none⟩])

/-- ABORT JOB ends the job: the ACTIVE or FAULTED entry, if there is one, and every READY one become ABORTED with a result, the
first alone with its report and with whatever parts its working had reached; the job is IDLE with end reason ABORTED, the
correction record is discarded, the halt record is kept, and the common retreat is ordered (R41, R38, R16, R17, R18, R64).
The model's choices: log entries 6, 8, 9, 10, 17, 18 and 28. -/
def Obligations.AbortEndsTheJob : Prop :=
  ∀ (tag : Word) (s : State), Takeable s ⟨0x000E, tag, []⟩ → s.test.running = false → s.job.state ≠ .idle → WorkheadSound s →
    (∀ k x, OnlyWorking s.queue k x → ∃ t r, exec (.abortJob tag []) s = .next t ∧ JobAborted s t ∧
      t.queue.slots[k]? = some { x with state := .aborted, result := some r } ∧
      r.number = x.entry.number ∧ r.slot = (s.queue.oldest + k) % 64 ∧ r.final = .aborted ∧ CorrectionPart x r ∧
      r.residual = none ∧ r.residualMissing = false ∧ r.retries = x.retries ∧
      r.fault = (if x.state = .faulted then s.job.halt.map (·.first) else none) ∧
      (x.state = .active → (∀ u, r.units.get u = (s.unit u).result) ∧
        (s.llu.reached = false → AchievedPart x.entry none r) ∧
        (∀ a, s.llu.reached = true → s.llu.achieved = some a →
          AchievedPart x.entry (some ⟨a, s.llu.liftShort, s.llu.lineForce⟩) r)) ∧
      (∀ kept, x.state = .faulted → x.kept = some kept → r.units = kept.units ∧ AchievedPart x.entry kept.achieved r) ∧
      Answered s t ⟨0x000E, tag, []⟩ .accepted
        [.entryFinished ((s.queue.oldest + k) % 64) x.entry.number .aborted,
         .jobState ⟨.idle, none, .aborted, s.job.halt, false, none⟩]) ∧
    (NoneWorking s.queue → ∃ t, exec (.abortJob tag []) s = .next t ∧ JobAborted s t ∧
      Answered s t ⟨0x000E, tag, []⟩ .accepted [.jobState ⟨.idle, none, .aborted, s.job.halt, false, none⟩])

/-- PARK ALL, in IDLE or HALTED, orders the common retreat with the UNHOMED and STUCK units and LLU among those it takes up, and
leaves the job as it is (R42, R38, R135, R158, R159).
The model's choices: log entries 6, 8, 9, 10 and 18. -/
def Obligations.ParkAllOrdersTheRetreat : Prop :=
  ∀ (tag : Word) (s : State), Takeable s ⟨0x000F, tag, []⟩ → s.test.running = false →
    (s.job.state = .idle ∨ s.job.state = .halted) → WorkheadSound s →
    ∃ t, exec (.parkAll tag []) s = .next t ∧ Retreated true s.entryInWork s t ∧ SameJob s t ∧
      Answered s t ⟨0x000F, tag, []⟩ .accepted []

/-- SET PARAMETERS in IDLE stores each present value at the nearer bound of its range, leaves the absent ones, lists the rows it
clamped, and hands the grant-slot count to the arbiter when the request carries it: in force at once, or pending while more
grants are held (R43, R169, R195).
The model's choice: log entry 25. -/
def Obligations.ParametersAreClampedAndStored : Prop :=
  ∀ (tag : Word) (body : List Byte) (s : State), Takeable s ⟨0x0003, tag, body⟩ → paramsFit body = true →
    s.test.running = false → s.job.state = .idle →
    ∃ t, exec (.setParameters tag body) s = .next t ∧
      t = { s with link := t.link, params := t.params, arb := t.arb } ∧
      (∀ n, n < 21 →
        (∀ v, paramAt body n = some v →
          t.params.values[n]? = some (max (paramRange n).1 (min v (paramRange n).2))) ∧
        (paramAt body n = none → t.params.values[n]? = s.params.values[n]?)) ∧
      (paramAt body 20 = none → t.arb = s.arb) ∧
      (∀ v, paramAt body 20 = some v →
        if s.arb.granted.length ≤ max 2 (min v 5) then t.arb.slots = max 2 (min v 5) ∧ t.arb.pendingN = none
        else t.arb = { s.arb with pendingN := some (max 2 (min v 5)) }) ∧
      Answered s t ⟨0x0003, tag, body⟩
        (.parametersSet ((List.range 21).filter fun n =>
          match paramAt body n with
          | some v => decide (v < (paramRange n).1) || decide ((paramRange n).2 < v)
          | none => false)) []

/-! ## The correction -/

/-- R54: the lining shift is the negative of the error at C, limited to the magnitude line_max with its sign kept and LINE_CLAMPED
set; exactly line_max stands; with line_max 0 the shift is 0 and the flag tells whether there was an error; and nothing of the
level chord, the cant, the lifts or the hook bears on it. -/
def Obligations.LiningShiftIsLimited : Prop :=
  ∀ (p : Params) (e : Entry) (pos : Nat) (c : Int) (i : Inputs) (r : Correction), r = correctionOf p e pos c i →
    ((p.lineMax : Int) < ((i.m - r.d + r.rl).natAbs : Int) →
      r.s = (if 0 < -(i.m - r.d + r.rl) then (p.lineMax : Int) else -(p.lineMax : Int)) ∧ r.flags.lineClamped = true) ∧
    (((i.m - r.d + r.rl).natAbs : Int) ≤ p.lineMax → r.s = -(i.m - r.d + r.rl) ∧ r.flags.lineClamped = false) ∧
    (p.lineMax = 0 → r.s = 0 ∧ (r.flags.lineClamped = true ↔ i.m - r.d + r.rl ≠ 0)) ∧
    ∀ (p' : Params) (e' : Entry) (pos' : Nat) (c' : Int) (i' : Inputs), p'.aL = p.aL → p'.bL = p.bL →
      p'.lineMax = p.lineMax → e'.frontOffset = e.frontOffset → i'.m = i.m → i'.k = i.k → i'.eA = i.eA →
      (correctionOf p' e' pos' c' i').s = r.s ∧ (correctionOf p' e' pos' c' i').flags.lineClamped = r.flags.lineClamped

/-- The stages of the correction, with their values and flags. The versine and the two reduction terms are the rounded quotients
of their formulas (R52, R53, R55). The grade-rail lift is the error there, with the allowance only where the rail is to be raised
(R55); the cant step is the difference of the cants, limited to cant_step_max with CANT_LIMITED (R56), and leads from the grade
rail to the other (R57); both lifts are raised until none is negative, with TRACK_HIGH (R58), and limited to lift_max with
LIFT_CLAMPED (R59); the hook lift is that of its rail plus the branch offset, limited with the same flag (R60); SENSOR_HELD,
JOIN_BROKEN and REUSED are as the inputs and the chain position give (R48, R61). So every demand lies within its limits, whatever
the inputs: the lining shift within line_max, each lift and the hook lift within 0 to lift_max, and the two rail lifts no further
apart than cant_step_max (R62). -/
def Obligations.DemandsStayWithinLimits : Prop :=
  ∀ (p : Params) (e : Entry) (pos : Nat) (c : Int) (i : Inputs) (r : Correction), r = correctionOf p e pos c i →
    (∃ z ug step delta left right raise hook : Int,
      r.c = c ∧ r.grade = p.grade ∧ r.d = divRound (p.aL * p.bL * i.k) 200000000 ∧
      r.rl = divRound (p.bL * i.eA + p.aL * e.frontOffset) (p.aL + p.bL) ∧
      r.rv = divRound (p.bV * i.zA + p.aV * e.frontLift) (p.aV + p.bV) ∧
      z = i.h + r.rv ∧ ug = (if 0 < z then z + e.allowance else z) ∧
      step = i.cd - i.cm ∧ (r.flags.cantLimited = true ↔ (p.cantStepMax : Int) < step.natAbs) ∧
      delta = (if step.natAbs ≤ p.cantStepMax then step else if 0 < step then (p.cantStepMax : Int) else -p.cantStepMax) ∧
      left = (if p.grade = .left then ug else ug - delta) ∧ right = (if p.grade = .left then ug + delta else ug) ∧
      raise = max 0 (-(min left right)) ∧ (r.flags.trackHigh = true ↔ min left right < 0) ∧
      r.uL = min (left + raise) p.liftMax ∧ r.uR = min (right + raise) p.liftMax ∧
      hook = (if e.hookSide = .left then r.uL else r.uR) + e.branch.getD 0 ∧
      r.hookLift = (if e.hook then some (max 0 (min hook p.liftMax)) else none) ∧
      r.hookSide = (if e.hook then some e.hookSide else none) ∧
      (r.flags.liftClamped = true ↔ (p.liftMax : Int) < left + raise ∨ (p.liftMax : Int) < right + raise ∨
        (e.hook = true ∧ (hook < 0 ∨ (p.liftMax : Int) < hook))) ∧
      r.flags.sensorHeld = i.held ∧ (r.flags.joinBroken = true ↔ 2 ≤ pos) ∧ r.flags.reused = false) ∧
    r.demands.lining = r.s ∧ r.demands.left = r.uL ∧ r.demands.right = r.uR ∧
    ((r.demands.lining.natAbs : Int) ≤ p.lineMax) ∧
    0 ≤ r.demands.left ∧ r.demands.left ≤ p.liftMax ∧ 0 ≤ r.demands.right ∧ r.demands.right ≤ p.liftMax ∧
    (((r.demands.left - r.demands.right).natAbs : Int) ≤ p.cantStepMax) ∧
    (e.hook = true → ∃ lift, r.demands.hook = some (lift, e.hookSide) ∧ r.hookLift = some lift ∧ 0 ≤ lift ∧ lift ≤ p.liftMax) ∧
    (e.hook = false → r.demands.hook = none)

/-- Every division of the manual's formulas gives the nearest integer, and of two equally near the one farther from zero, with the
sign of the dividend (R45). -/
def Obligations.DivisionRoundsHalfAway : Prop :=
  ∀ a b : Int, 0 < b →
    ((2 * (divRound a b * b - a).natAbs : Int) ≤ b) ∧
    ((2 * (divRound a b * b - a).natAbs : Int) = b → a.natAbs < (divRound a b * b).natAbs) ∧
    (0 ≤ a → 0 ≤ divRound a b) ∧ (a ≤ 0 → divRound a b ≤ 0)

/-- At rest within the tolerance of T, with the job in POSITIONING and the inputs of the computation in hand, the Positioner is
IN_POSITION, the correction is computed at C = P, kept and copied to the slot, the phase is WORKING, the LLU takes the demands and
asks for its clamp, and each used unit is told to work: a SET one asks to lower (R30, R47, R48, R49, R50, R64, R112, R125, R146).
The model's choice: log entry 6. -/
def Obligations.InPositionOrdersTheWork : Prop :=
  ∀ (s : State) (k : Nat) (x : Slot) (goal curv cant : Int), s.travel.state = .stopping → s.travel.settle.isSome = true →
    s.travel.target = some goal → ((s.travel.p - goal).natAbs ≤ s.params.posTolerance) →
    s.job.state = .running → s.job.phase = some .positioning → OnlyWorking s.queue k x →
    s.engine = .noRecord → s.llu.state = .isOpen → NoRetreat s →
    (∀ ch ∈ [Channel.line, levelChannel s.params.grade, .cant], (s.meas.channels.get ch).state ≠ .lost) →
    ((s.params.mode = .localMode ∧ curv = x.entry.localCurv ∧ cant = x.entry.localCant) ∨
     (s.params.mode = .design ∧ s.table.lookup s.travel.p = some (curv, cant))) →
    ∃ t r, exec .positionSettleExpiry s = .next t ∧
      r = correctionOf s.params x.entry x.chainPos s.travel.p
        { m := (s.meas.channels.get .line).current, h := (s.meas.channels.get (levelChannel s.params.grade)).current
          cm := (s.meas.channels.get .cant).current
          held := (s.meas.channels.get .line).state == .held ||
            (s.meas.channels.get (levelChannel s.params.grade)).state == .held || (s.meas.channels.get .cant).state == .held
          k := curv, cd := cant
          eA := s.trail.question (·.line) (s.travel.p - s.params.aL)
          zA := s.trail.question (·.level) (s.travel.p - s.params.aV) } ∧
      t.engine = .working r ∧
      t.queue = { s.queue with slots := s.queue.slots.set k { x with copy := some r } } ∧
      t.job = { s.job with phase := some .working } ∧
      t.travel = { s.travel with state := .inPosition, settle := none, drive := .stop } ∧
      t.llu = { s.llu with
        state := .clamping, waiting := true, demands := some r.demands, baseline := none, achieved := none, reached := false
        liftShort := false, lineForce := false } ∧
      (∀ u, t.unit u =
        if (s.unit u).result.used = true ∧ (s.unit u).workOrdered = false ∧ (s.unit u).state = .set then
          { s.unit u with workOrdered := true, state := .lowering, waiting := true }
        else if (s.unit u).result.used = true ∧ (s.unit u).state = .shifting then { s.unit u with workOrdered := true }
        else s.unit u) ∧
      t.arb = (UnitId.all.filter fun u => (s.unit u).result.used && !(s.unit u).workOrdered && (s.unit u).state == .set).foldl
        (fun a u => a.request (.unit u)) (s.arb.request .llu) ∧
      t.params = s.params ∧ t.table = s.table ∧ t.meas = s.meas ∧ t.trail = s.trail ∧ t.test = s.test ∧ t.pending = s.pending ∧
      t.field = { s.field with sent := s.field.sent ++ (if s.travel.drive = .stop then [] else [.drive .stop]) } ∧
      t.link = s.link.begin

/-- A computation that fails, with SENSOR_LOST when a channel it reads is LOST and otherwise with OFF_TABLE when the table has no
answer, halts the job with source COMPUTATION; the entry loses its copy and no demand reaches the LLU (R48, R49, R51, R66, R37).
The model's choices: log entries 6, 8, 9, 10 and 18. -/
def Obligations.FailedComputationHalts : Prop :=
  ∀ (s : State) (k : Nat) (x : Slot) (goal : Int) (code : FaultCode), s.travel.state = .stopping →
    s.travel.settle.isSome = true → s.travel.target = some goal →
    ((s.travel.p - goal).natAbs ≤ s.params.posTolerance) →
    s.job.state = .running → s.job.phase = some .positioning → OnlyWorking s.queue k x → x.state = .active → WorkheadSound s →
    ((code = .sensorLost ∧
        ∃ ch ∈ [Channel.line, levelChannel s.params.grade, .cant], (s.meas.channels.get ch).state = .lost) ∨
     (code = .offTable ∧
        (∀ ch ∈ [Channel.line, levelChannel s.params.grade, .cant], (s.meas.channels.get ch).state ≠ .lost) ∧
        s.params.mode = .design ∧ s.table.lookup s.travel.p = none)) →
    ∃ t, exec .positionSettleExpiry s = .next t ∧
      Halted code .computation
        { s with
          queue := { s.queue with slots := s.queue.slots.set k { x with copy := none } }
          travel := { s.travel with state := .inPosition, settle := none } } t

/-! ## The Design Table -/

/-- The lookup answers exactly on a VALID table from the first start up to, but not including, the last end; it answers from the one
segment that holds the position, with the nearest integer to the straight line between the end values, within them, and exact at
the segment's start (R80, R81, R49). -/
def Obligations.LookupInterpolatesInItsSegment : Prop :=
  ∀ (t : DesignTable) (x : Int), t.Sound →
    (t.state ≠ .valid → t.lookup x = none) ∧
    (t.state = .valid →
      (t.lookup x = none ↔
        ¬ ∃ first last, t.segments.head? = some first ∧ t.segments.getLast? = some last ∧ first.start ≤ x ∧
          x < last.start + last.length)) ∧
    (∀ curv cant, t.lookup x = some (curv, cant) →
      ∃ g ∈ t.segments, g.start ≤ x ∧ x < g.start + g.length ∧
        (∀ h ∈ t.segments, h.start ≤ x → x < h.start + h.length → h = g) ∧
        2 * ((curv - g.k0) * g.length - (g.k1 - g.k0) * (x - g.start)).natAbs ≤ g.length.natAbs ∧
        2 * ((cant - g.cant0) * g.length - (g.cant1 - g.cant0) * (x - g.start)).natAbs ≤ g.length.natAbs ∧
        min g.k0 g.k1 ≤ curv ∧ curv ≤ max g.k0 g.k1 ∧ min g.cant0 g.cant1 ≤ cant ∧ cant ≤ max g.cant0 g.cant1 ∧
        (x = g.start → curv = g.k0 ∧ cant = g.cant0))

/-- The loading of the table: OPEN TABLE discards what was there, TABLE SEGMENT stores the expected segment and adds its nine words
to the running check, CLOSE TABLE judges the count before the check; each refusal comes at its place in the order and changes
nothing but the link (R73, R74, R75, R76, R77, R78). -/
def Obligations.TableLoadsSegmentBySegment : Prop :=
  ∀ (tag : Word) (s : State), s.test.running = false →
    (∀ n lo hi : Byte, Takeable s ⟨0x0010, tag, [n, lo, hi]⟩ →
      (s.job.state ≠ .idle ∧ s.params.mode = .design →
        ∃ t, exec (.openTable tag [n, lo, hi]) s = .next t ∧ t = { s with link := t.link } ∧
          Answered s t ⟨0x0010, tag, [n, lo, hi]⟩ (.refused .tableInUse 0x0010 (jobCode s.job.state) none) []) ∧
      (s.job.state = .idle ∨ s.params.mode = .localMode →
        (1 ≤ n.toNat ∧ n.toNat ≤ 128 →
          ∃ t, exec (.openTable tag [n, lo, hi]) s = .next t ∧
            t = { s with link := t.link, table := ⟨.loading, some (n.toNat, wordOf lo hi), [], 0⟩ } ∧
            Answered s t ⟨0x0010, tag, [n, lo, hi]⟩ (.tableOpened n.toNat) []) ∧
        (¬ (1 ≤ n.toNat ∧ n.toNat ≤ 128) →
          ∃ t, exec (.openTable tag [n, lo, hi]) s = .next t ∧ t = { s with link := t.link } ∧
            Answered s t ⟨0x0010, tag, [n, lo, hi]⟩ (.refused .tableFull 0x0010 128 none) []))) ∧
    (∀ body g, body.length = 18 → g = decodeSegment body → Takeable s ⟨0x0011, tag, body⟩ →
      (∀ reason detail,
        (if s.table.state ≠ .loading then reason = .wrongState ∧ detail = tableCode s.table.state
         else if s.table.count ≤ g.index then reason = .tableFull ∧ detail = s.table.count
         else if g.index ≠ s.table.segments.length then reason = .tableOrder ∧ detail = s.table.segments.length
         else if g.kind > 2 then reason = .tableKind ∧ detail = 1
         else if ¬ (0 ≤ g.start ∧ g.start ≤ 4000000) then reason = .tableKind ∧ detail = 2
         else if ¬ (1000 ≤ g.length ∧ g.length ≤ 400000) then reason = .tableKind ∧ detail = 3
         else if ¬ (-10000 ≤ g.k0 ∧ g.k0 ≤ 10000 ∧ -10000 ≤ g.k1 ∧ g.k1 ≤ 10000) then reason = .tableKind ∧ detail = 4
         else if ¬ (-1800 ≤ g.cant0 ∧ g.cant0 ≤ 1800 ∧ -1800 ≤ g.cant1 ∧ g.cant1 ≤ 1800) then reason = .tableKind ∧ detail = 5
         else if ¬ ((g.kind = 0 → g.k0 = 0 ∧ g.k1 = 0 ∧ g.cant0 = g.cant1) ∧
             (g.kind = 1 → g.k0 = g.k1 ∧ g.k0 ≠ 0 ∧ g.cant0 = g.cant1) ∧ (g.kind = 2 → g.k0 ≠ g.k1)) then
           reason = .tableKind ∧ detail = 6
         else ∃ prev, 0 < g.index ∧ s.table.segments[g.index - 1]? = some prev ∧ g.start ≠ prev.start + prev.length ∧
           reason = .tableGap ∧ detail = g.index - 1) →
        ∃ t, exec (.tableSegment tag body) s = .next t ∧ t = { s with link := t.link } ∧
          Answered s t ⟨0x0011, tag, body⟩ (.refused reason 0x0011 detail none) []) ∧
      (∀ seg, g.stored = some seg → seg.Fits → s.table.state = .loading → g.index = s.table.segments.length →
        g.index < s.table.count →
        (∀ prev, 0 < g.index → s.table.segments[g.index - 1]? = some prev → g.start = prev.start + prev.length) →
        ∃ t, exec (.tableSegment tag body) s = .next t ∧
          t = { s with
            link := t.link
            table := { s.table with segments := s.table.segments ++ [seg], check := onesSum s.table.check (segmentBytes seg) } } ∧
          Answered s t ⟨0x0011, tag, body⟩ (.segmentStored (g.index + 1) t.table.check) [])) ∧
    (Takeable s ⟨0x0012, tag, []⟩ →
      (s.table.state ≠ .loading →
        ∃ t, exec (.closeTable tag []) s = .next t ∧ t = { s with link := t.link } ∧
          Answered s t ⟨0x0012, tag, []⟩ (.refused .wrongState 0x0012 (tableCode s.table.state) none) []) ∧
      (∀ n check, s.table.state = .loading → s.table.declared = some (n, check) →
        ∃ t found, exec (.closeTable tag []) s = .next t ∧
          found = (if s.table.segments.length ≠ n then CloseOutcome.count
            else if s.table.check ≠ check then .check else .valid) ∧
          t = { s with link := t.link, table := { s.table with state := if found = .valid then .valid else .invalid } } ∧
          Answered s t ⟨0x0012, tag, []⟩ (.tableClosed found s.table.segments.length s.table.check) []))

/-- While a job in DESIGN mode is not IDLE the table stays VALID, and a self-test runs only with the job IDLE: every step keeps both
(R82, R187). -/
def Obligations.StepKeepsTableForTheJob : Prop :=
  ∀ s t : State, TableHeld s → step s = .next t → TableHeld t

/-! ## Measurement and the Residual Trail -/

/-- R95: an append removes every record at or beyond the new position, places the new record as the newest, drops the oldest of 33,
counts itself, and keeps the order strict; the oldest is dropped only when nothing was removed and the trail was full. -/
def Obligations.TrailAppendKeepsOrder : Prop :=
  ∀ (t : Trail) (r : TrailRecord) (kept : List TrailRecord), t.Sound →
    kept = t.records.filter (fun x => decide (x.position < r.position)) →
    (kept.length + 1 ≠ 33 → (t.append r).records = kept ++ [r]) ∧
    (kept.length + 1 = 33 → (t.append r).records = kept.drop 1 ++ [r]) ∧
    (kept.length + 1 = 33 → kept = t.records ∧ t.records.length = 32) ∧
    (t.append r).count = (if t.count = 65535 then 0 else t.count + 1) ∧
    (t.append r).records.Pairwise (fun x y => x.position < y.position) ∧
    (∀ x ∈ t.records, r.position ≤ x.position → x ∈ (t.append r).records → x = r) ∧
    (t.append r).records.getLast? = some r ∧ (t.append r).records.length ≤ 32

/-- The trail answers a question by the five cases of R97, an absent residual counting as 0; between two records the answer is the
nearest integer to the straight line and lies between their residuals (R97, R50). -/
def Obligations.TrailAnswersByInterpolation : Prop :=
  ∀ (t : Trail) (field : TrailRecord → Option Int) (x : Int), t.Sound →
    (x < 0 ∨ t.records = [] → t.question field x = 0) ∧
    (∀ oldest, 0 ≤ x → t.records.head? = some oldest → x < oldest.position → t.question field x = (field oldest).getD 0) ∧
    (∀ a ∈ t.records, 0 ≤ x → x = a.position → t.question field x = (field a).getD 0) ∧
    (∀ newest, 0 ≤ x → t.records.getLast? = some newest → newest.position < x →
      t.question field x = (field newest).getD 0) ∧
    (∀ i a b v1 v2, 0 ≤ x → t.records[i]? = some a → t.records[i + 1]? = some b → a.position < x → x < b.position →
      v1 = (field a).getD 0 → v2 = (field b).getD 0 →
      2 * ((t.question field x - v1) * (b.position - a.position) - (v2 - v1) * (x - a.position)).natAbs
        ≤ (b.position - a.position).natAbs ∧
      min v1 v2 ≤ t.question field x ∧ t.question field x ≤ max v1 v2)

/-- Every sample, arriving or missed, moves each of the nine channels by the table of R86, and starts the sample timer again; a
missed sample is bad on every channel. With nobody to hand it to, nothing else changes (R84, R85, R86, R87, R88). With a channel the
LLU lifts by newly LOST, an LLU in CLAMPING or LIFTING without the retreat mark gives up its motion, keeps its state, forms no
achieved values, and hands SENSOR_LOST to Job Control (R151, R26, R37). In LIFTING with the retreat mark the achieved values are
formed all the same, with no fault and no arrival (R148, R158, R90).
The model's choices: log entries 6, 8, 9, 10, 18 and 37. -/
def Obligations.SamplesMoveTheChannels : Prop :=
  ∀ (sample : Channels Reading) (s : State), ∃ t m,
    exec (.sampleArrival sample) s = .next t ∧ (s.meas.timer.isSome = true → exec .sampleTimerExpiry s = .next m) ∧
    t.meas.timer = some 20 ∧ (s.meas.timer.isSome = true → m.meas.timer = some 20) ∧
    (∀ c, (s.meas.channels.get c).Sound c →
      (if (sample.get c).valid = true ∧ (channelRange c).1 ≤ (sample.get c).value ∧ (sample.get c).value ≤ (channelRange c).2 then
        t.meas.channels.get c = ⟨.valid, 0, some (sample.get c).value⟩
       else ChannelBad (s.meas.channels.get c) (t.meas.channels.get c)) ∧
      (s.meas.timer.isSome = true → ChannelBad (s.meas.channels.get c) (m.meas.channels.get c))) ∧
    (s.llu.state ≠ .clamping → s.llu.state ≠ .lifting → s.llu.state ≠ .settling → NoRetreat s → DriveSound s →
      s.test.running = false →
      t = { s with meas := t.meas, link := s.link.begin } ∧
      (s.meas.timer.isSome = true → m = { s with meas := m.meas, link := s.link.begin })) ∧
    (∀ ch, s.llu.state = .clamping ∨ s.llu.state = .lifting → s.llu.retreat = false → s.test.running = false →
      WorkheadSound s → s.LiftsBy ch → (s.meas.channels.get ch).state ≠ .lost →
      ((t.meas.channels.get ch).state = .lost → LluSensorLost t.meas s t) ∧
      (s.meas.timer.isSome = true → (m.meas.channels.get ch).state = .lost → LluSensorLost m.meas s m)) ∧
    (s.llu.state = .lifting → s.llu.retreat = true → s.test.running = false →
      RetreatSample s t ∧ (s.meas.timer.isSome = true → RetreatSample s m))

/-- Whatever the computation reads stays within the ranges of its rules: parameters, channels, trail, travel and table (R43, R71,
R72, R75, R84, R86, R94, R100, R102). -/
def Obligations.StepKeepsStoresSound : Prop :=
  ∀ s t : State, StoreSound s → step s = .next t → StoreSound t

/-! ## Travel and Positioning -/

/-- R109: in CREEP a step that reaches T less the tolerance leads to STOPPING, with the settle timer started and the order STOP,
even when it passes right over the target; any other leaves CREEP, even when it carries P back below the creep distance. -/
def Obligations.CreepStopsAtTheTolerance : Prop :=
  ∀ (mm goal : Int) (s : State), s.travel.state = .creep → s.travel.target = some goal →
    -50000 ≤ s.travel.p + mm → s.travel.p + mm ≤ 4000000 → NoRetreat s →
    ∃ t, exec (.odometerStep mm) s = .next t ∧
      t = { s with travel := t.travel, field := t.field, link := s.link.begin } ∧
      (goal - s.params.posTolerance ≤ s.travel.p + mm →
        t.travel = { s.travel with
          p := s.travel.p + mm, state := .stopping, settle := some s.params.settleTime, drive := .stop }) ∧
      (s.travel.p + mm < goal - s.params.posTolerance →
        t.travel = { s.travel with p := s.travel.p + mm, drive := if s.drivePermitted then .forwardCreep else .stop }) ∧
      t.field = { s.field with
        sent := s.field.sent ++ (if s.travel.drive = t.travel.drive then [] else [.drive t.travel.drive]) }

/-- R110: in REVERSING a step that reaches T plus the tolerance leads to STOPPING with the settle timer started, even when it
carries the machine back past the whole band; any other leaves REVERSING. -/
def Obligations.ReverseStopsAtTheTolerance : Prop :=
  ∀ (mm goal : Int) (s : State), s.travel.state = .reversing → s.travel.target = some goal →
    -50000 ≤ s.travel.p + mm → s.travel.p + mm ≤ 4000000 → NoRetreat s →
    ∃ t, exec (.odometerStep mm) s = .next t ∧
      t = { s with travel := t.travel, field := t.field, link := s.link.begin } ∧
      (s.travel.p + mm ≤ goal + s.params.posTolerance →
        t.travel = { s.travel with
          p := s.travel.p + mm, state := .stopping, settle := some s.params.settleTime, drive := .stop }) ∧
      (goal + s.params.posTolerance < s.travel.p + mm →
        t.travel = { s.travel with p := s.travel.p + mm, drive := if s.drivePermitted then .reverseCreep else .stop }) ∧
      t.field = { s.field with
        sent := s.field.sent ++ (if s.travel.drive = t.travel.drive then [] else [.drive t.travel.drive]) }

/-- The other steps: FAST goes to STOPPING or CREEP as P comes near, STOPPING starts its timer again, IDLE and IN_POSITION within
the tolerance count alone, IN_POSITION outside it raises MOVED_WHILE_WORKING, and a step past a bound leaves P there and raises
TRAVEL_LIMIT with the job RUNNING, the Positioner IDLE and the drive order STOP before the fault (R100, R101, R108, R111, R114,
R115, R116).
The model's choices: log entries 6, 8, 9, 10 and 18. -/
def Obligations.StepsAreCountedAndTested : Prop :=
  ∀ (mm goal : Int) (s : State), s.travel.target = some goal →
    (-50000 ≤ s.travel.p + mm → s.travel.p + mm ≤ 4000000 → NoRetreat s → DriveSound s →
      (s.travel.state = .idle ∨
        (s.travel.state = .inPosition ∧ (s.travel.p + mm - goal).natAbs ≤ s.params.posTolerance) →
        exec (.odometerStep mm) s =
          .next { s with travel := { s.travel with p := s.travel.p + mm }, link := s.link.begin }) ∧
      (s.travel.state = .stopping →
        exec (.odometerStep mm) s =
          .next { s with
            travel := { s.travel with p := s.travel.p + mm, settle := some s.params.settleTime }, link := s.link.begin }) ∧
      (s.travel.state = .fast →
        ∃ t, exec (.odometerStep mm) s = .next t ∧
          t = { s with travel := t.travel, field := t.field, link := s.link.begin } ∧
          t.travel = { s.travel with
            p := s.travel.p + mm, drive := t.driveDue
            state :=
              if goal - s.params.posTolerance ≤ s.travel.p + mm then .stopping
              else if goal - s.params.creepDistance ≤ s.travel.p + mm then .creep else .fast
            settle :=
              if goal - s.params.posTolerance ≤ s.travel.p + mm then some s.params.settleTime else s.travel.settle } ∧
          t.field = { s.field with
            sent := s.field.sent ++ (if s.travel.drive = t.travel.drive then [] else [.drive t.travel.drive]) })) ∧
    (-50000 ≤ s.travel.p + mm → s.travel.p + mm ≤ 4000000 → WorkheadSound s → s.travel.state = .inPosition →
      s.params.posTolerance < (s.travel.p + mm - goal).natAbs →
      ∃ t, exec (.odometerStep mm) s = .next t ∧
        Faulted .movedWhileWorking .travel
          ({ s with travel := { s.travel with p := s.travel.p + mm } } : State).idled t) ∧
    (∀ bound, (s.travel.p + mm < -50000 ∧ bound = -50000) ∨ (4000000 < s.travel.p + mm ∧ bound = 4000000) →
      (s.job.state = .running → WorkheadSound s →
        ∃ t, exec (.odometerStep mm) s = .next t ∧
          Faulted .travelLimit .travel ({ s with travel := { s.travel with p := bound } } : State).idled t) ∧
      (s.job.state ≠ .running → NoRetreat s → DriveSound s →
        exec (.odometerStep mm) s = .next { s with travel := { s.travel with p := bound }, link := s.link.begin }))

/-- The settle expiry away from the target: beyond the tolerance a reversal, counted, or POSITION_FAILED when one more would
exceed the overshoot limit, with the count left; short of it CREEP, with no count; before the fault the Positioner is IDLE and the
drive order STOP (R112, R116).
The model's choices: log entries 6, 8, 9, 10 and 18. -/
def Obligations.RestIsJudgedAgainstTheTarget : Prop :=
  ∀ (s : State) (goal : Int), s.travel.state = .stopping → s.travel.settle.isSome = true → s.travel.target = some goal →
    (goal + s.params.posTolerance < s.travel.p → s.travel.reversals + 1 ≤ s.params.overshootLimit → NoRetreat s →
      ∃ t, exec .positionSettleExpiry s = .next t ∧
        t = { s with travel := t.travel, field := t.field, link := s.link.begin } ∧
        t.travel = { s.travel with
          state := .reversing, reversals := s.travel.reversals + 1, settle := none
          drive := if s.drivePermitted then .reverseCreep else .stop } ∧
        t.field = { s.field with
          sent := s.field.sent ++ (if s.travel.drive = t.travel.drive then [] else [.drive t.travel.drive]) }) ∧
    (goal + s.params.posTolerance < s.travel.p → s.params.overshootLimit < s.travel.reversals + 1 → WorkheadSound s →
      ∃ t, exec .positionSettleExpiry s = .next t ∧
        Faulted .positionFailed .travel s.idled t) ∧
    (s.travel.p < goal - s.params.posTolerance → NoRetreat s →
      ∃ t, exec .positionSettleExpiry s = .next t ∧
        t = { s with travel := t.travel, field := t.field, link := s.link.begin } ∧
        t.travel = { s.travel with
          state := .creep, settle := none, drive := if s.drivePermitted then .forwardCreep else .stop } ∧
        t.field = { s.field with
          sent := s.field.sent ++ (if s.travel.drive = t.travel.drive then [] else [.drive t.travel.drive]) })

/-- The drive order issued is always the one due, at every step; and it is other than STOP only with the job RUNNING in POSITIONING,
the LLU OPEN, and every unit PARKED, SHIFTING or SET (R104, R105). -/
def Obligations.StepKeepsDriveSound : Prop :=
  (∀ s t : State, DriveSound s → step s = .next t → DriveSound t) ∧
  (∀ s : State, DriveSound s → s.travel.drive ≠ .stop →
    s.job.state = .running ∧ s.job.phase = some .positioning ∧ s.llu.state = .isOpen ∧
    (∀ u, (s.unit u).state = .parked ∨ (s.unit u).state = .shifting ∨ (s.unit u).state = .set) ∧
    (s.travel.state = .fast ∨ s.travel.state = .creep ∨ s.travel.state = .reversing))

/-! ## Tamping units -/

/-- Which waiting requester is granted: while the four conditions of R166 hold the arbiter takes the one that R164 names, and in a
retreat R165, and tests again; a request, a release and a withdrawal lead to this test, or change nothing, as R163, R167 and R168
give. A grant that reaches a waiting requester makes it issue its order, with the next number, and start its timer; a requester that
waits for nothing and has no motion under way gives the grant back (R121, R122, R141, R146, R155, R161).
The model's choice: log entry 21. -/
def Obligations.GrantsIssueTheOrder : Prop :=
  (∀ a : Arbiter,
    (a.waiting ≠ [] → ∃ r, a.Chooses r ∧ ∀ r', a.Chooses r' → r' = r) ∧
    (∀ r, a.MayGrant → a.Chooses r → a.grant = (a.granting r).grant) ∧ (¬ a.MayGrant → a.grant = a) ∧
    (∀ r,
      (r ∈ a.granted ∨ r ∈ a.waiting → a.request r = a) ∧
      (r ∉ a.granted → r ∉ a.waiting → a.request r = ({ a with waiting := a.waiting ++ [r] } : Arbiter).grant) ∧
      (r ∉ a.granted → a.release r = a) ∧ (r ∈ a.granted → a.release r = (a.without r).grant) ∧
      (r ∈ a.waiting → a.withdraw r = { a with waiting := a.waiting.erase r }) ∧
      (r ∉ a.waiting → a.withdraw r = a.release r))) ∧
  ∀ s : State,
    (∀ u o ms, (s.unit u).Shaped → (s.unit u).waiting = true → .unit u ∈ s.arb.granted →
      (s.unit u).MotionOrder s.params o ms → s.arb.retreatMode = false ∨ (s.unit u).state = .retreating →
      ∃ t, exec (.unitGrant u) s = .next t ∧
        UnitMoved u { (s.unit u).ordered o ms with waiting := false } s.arb [.unit u o (numberAfter (s.unit u).orderNo)] s t) ∧
    (∀ u, (s.unit u).waiting = false → (s.unit u).order = none ∨ (s.unit u).state.motion = false → NoRetreat s →
      ∃ t, exec (.unitGrant u) s = .next t ∧ UnitMoved u (s.unit u) (s.arb.release (.unit u)) [] s t) ∧
    (∀ d o, s.llu.Shaped → s.llu.waiting = true → .llu ∈ s.arb.granted → s.llu.state = .clamping → NoRetreat s →
      s.llu.demands = some d → o = .clamp (d.hook.map (·.2)) →
      ∃ t, exec .lluGrant s = .next t ∧
        LluMoved { s.llu.ordered o 1500 with waiting := false, clampsClosed := true, hookEngaged := d.hook.isSome } s.arb
          [.llu o (numberAfter s.llu.orderNo)] s t) ∧
    (s.llu.Shaped → s.llu.waiting = true → .llu ∈ s.arb.granted → s.llu.state = .releasing →
      ∃ t, exec .lluGrant s = .next t ∧
        LluMoved { s.llu.ordered .unclamp 1500 with waiting := false } s.arb [.llu .unclamp (numberAfter s.llu.orderNo)] s t) ∧
    (s.llu.waiting = false → s.llu.order = none → NoRetreat s →
      ∃ t, exec .lluGrant s = .next t ∧ LluMoved s.llu (s.arb.release .llu) [] s t)

/-- A completion with the number of the outstanding order ends the order and moves the unit on, as R124, R126, R127, R129, R131,
R132 and R136 give for its state: the side-shift to SET or LOWERING, and a whole continuation to work when it was the last to be
SET (R29); the depth to INSERTED, or SQUEEZING with the gate open; open tines to the next insertion, to park, or to retreat; mid
height down again; park height to PARKED, with the retreat followed up from RETREATING (R38, R159), and from RAISING to done, which
is all while another unit is at work or the LLU is not at demand (R31). A completion whose kind or number is not that of the
outstanding order is ignored, whatever the unit's state (R121).
The model's choices: log entries 6 (the order LO, LI, RI, RO in which a whole continuation's units ask) and 18 (when the end of a
retreat is tested). -/
def Obligations.CompletionsMoveTheUnitOn : Prop :=
  ∀ (u : UnitId) (n : Nat) (s : State) (x : TUnit), x = s.unit u → x.Shaped →
    (∀ mm mask, x.state = .shifting → x.order = some (.shift mm mask, n) → NoRetreat s →
      (x.workOrdered = true →
        ∃ t, exec (.shiftReached u n) s = .next t ∧
          UnitMoved u (x.ended.asks .lowering) ((s.arb.release (.unit u)).request (.unit u)) [] s t) ∧
      (x.workOrdered = false →
        (s.job.state ≠ .running ∨ s.job.phase ≠ some .holding ∨
          ∃ v, v ≠ u ∧ s.job.done.get v = false ∧ (s.unit v).state ≠ .set) →
        ∃ t, exec (.shiftReached u n) s = .next t ∧
          UnitMoved u { x.ended with state := .set } (s.arb.release (.unit u)) [] s t) ∧
      (∀ base, x.workOrdered = false → x.result.used = true → s.job.state = .running → s.job.phase = some .holding →
        (∃ y ∈ s.queue.slots, y.state = .active) →
        (∀ v, v ≠ u → (s.job.done.get v = true ∧ (s.unit v).state = .parked) ∨
          ((s.unit v).state = .set ∧ (s.unit v).result.used = true ∧ (s.unit v).workOrdered = false)) →
        base = s.units.set u { x.ended with state := .set } →
        ∃ t, exec (.shiftReached u n) s = .next t ∧
          t = { s with
            units := t.units, job := { s.job with phase := some .working }, travel := t.travel, field := t.field, link := t.link
            arb := (UnitId.all.filter fun v => (base.get v).state == .set).foldl (fun a v => a.request (.unit v))
              (s.arb.release (.unit u)) } ∧
          (∀ v, t.unit v =
            if (base.get v).state = .set then { (base.get v).asks .lowering with workOrdered := true } else base.get v) ∧
          Issued s t [])) ∧
    (∀ mm, x.state = .lowering → x.order = some (.lower mm, n) → NoRetreat s →
      (s.llu.state ≠ .atDemand → s.llu.state ≠ .holding →
        ∃ t, exec (.depthReached u n) s = .next t ∧
          UnitMoved u { x.ended with state := .inserted } (s.arb.release (.unit u)) [] s t) ∧
      (∀ g, s.llu.state = .atDemand ∨ s.llu.state = .holding → x.settings = some g →
        ∃ t, exec (.depthReached u n) s = .next t ∧
          UnitMoved u { x.ordered (.squeeze g.pressure) s.params.squeezeTime with state := .squeezing, tinesClosed := true }
            (s.arb.release (.unit u)) [.unit u (.squeeze g.pressure) (numberAfter x.orderNo)] s t)) ∧
    (x.state = .opening → x.order = some (.opens, n) →
      (x.retreat = true →
        ∃ t, exec (.tinesOpen u n) s = .next t ∧
          UnitMoved u { x.ended.asks .retreating with tinesClosed := false } (s.arb.request (.unit u)) [] s t) ∧
      (∀ g, x.retreat = false → x.settings = some g → NoRetreat s →
        (x.insertion < g.insertions →
          ∃ t, exec (.tinesOpen u n) s = .next t ∧
            UnitMoved u
              { (x.ended.asks .liftingOut).noting (fun r => { r with completed := r.completed + 1 }) with
                tinesClosed := false, insertion := x.insertion + 1, retries := 0 }
              (s.arb.request (.unit u)) [] s t) ∧
        (g.insertions ≤ x.insertion →
          ∃ t, exec (.tinesOpen u n) s = .next t ∧
            UnitMoved u
              { (x.ended.asks .raising).noting (fun r => { r with completed := r.completed + 1 }) with tinesClosed := false }
              (s.arb.request (.unit u)) [] s t))) ∧
    (x.state = .liftingOut → x.order = some (.raiseMid, n) → NoRetreat s →
      ∃ t, exec (.atMid u n) s = .next t ∧
        UnitMoved u (x.ended.asks .lowering) ((s.arb.release (.unit u)).request (.unit u)) [] s t) ∧
    (x.state = .retreating → x.order = some (.raisePark, n) →
      ∃ t, exec (.atPark u n) s = .next t ∧
        t = { s with
          units := s.units.set u { x.ended with state := .parked, retreat := false }
          llu := t.llu, arb := t.arb, travel := t.travel, field := t.field, link := t.link } ∧
        RetreatFollowed s.llu (s.arb.release (.unit u)) t ∧ Issued s t []) ∧
    (x.state = .raising → x.order = some (.raisePark, n) → s.job.state = .running ∨ s.job.state = .paused → NoRetreat s →
      (∃ v, v ≠ u ∧ s.job.done.get v = false) ∨ (s.llu.state ≠ .atDemand ∧ s.llu.state ≠ .holding) →
      ∃ t, exec (.atPark u n) s = .next t ∧
        t = { s with
          units := s.units.set u { x.ended with state := .parked, retreat := false }
          job := { s.job with done := s.job.done.set u true }
          arb := s.arb.release (.unit u), travel := t.travel, field := t.field, link := t.link } ∧ Issued s t []) ∧
    ((∀ mm mask, x.order ≠ some (.shift mm mask, n)) → exec (.shiftReached u n) s = .next s) ∧
    ((∀ mm, x.order ≠ some (.lower mm, n)) → exec (.depthReached u n) s = .next s) ∧
    (x.order ≠ some (.opens, n) → exec (.tinesOpen u n) s = .next s) ∧
    (x.order ≠ some (.raiseMid, n) → exec (.atMid u n) s = .next s) ∧
    (x.order ≠ some (.raisePark, n) → exec (.atPark u n) s = .next s)

/-- The last unit reaches park while the LLU is at demand, and the work of the entry ends (R31). Without JOINED_NEXT the LLU
releases and the record closes. With it the LLU holds, the entry finishes at once and its record is held (R15, R153, R154); then
the next READY entry is activated on the held track, with the record taken over and no travel (R28, R29, R65), or the job holds. A
continuation without used units ends its own work in the same event (R29).
The model's choices: log entries 6 and 16. -/
def Obligations.LastUnitEndsTheWork : Prop :=
  ∀ (u : UnitId) (n : Nat) (s : State) (k : Nat) (x : Slot) (goal : Int), (s.unit u).Shaped → (s.unit u).state = .raising →
    (s.unit u).order = some (.raisePark, n) → s.job.state = .running → s.job.phase = some .working →
    OnlyWorking s.queue k x → x.state = .active → s.llu.state = .atDemand ∨ s.llu.state = .holding →
    (∀ v, v ≠ u → s.job.done.get v = true) → NoRetreat s → s.travel.target = some goal →
    ∃ t, exec (.atPark u n) s = .next t ∧
      WorkEnds 3
        { s with
          units := s.units.set u { (s.unit u).ended with state := .parked, retreat := false }
          job := { s.job with done := s.job.done.set u true }, arb := s.arb.release (.unit u) } t k x goal

/-- A motion that runs out of its time makes the unit STUCK with the fault UNIT_STUCK, a clamping or an unclamping that does makes
the LLU STUCK, its clamps counting as closed, with CLAMP_FAILED: the order is cancelled and the grant released first, a machine
that still drives is stopped at the unit's change (R105), and the fault then goes its way by the job's state (R26, R37, R124, R127,
R131, R132, R134, R136, R146, R155, R159).
The model's choices: log entries 6, 8, 9, 10, 18 and 24. -/
def Obligations.TimeoutsMakeStuck : Prop :=
  (∀ (c : Instr) (u : UnitId) (s : State) (o : UnitOrder) (n : Nat), WorkheadSound s → (s.unit u).order = some (o, n) →
    ((c = .shiftTimeout u ∧ (s.unit u).state = .shifting) ∨ (c = .openTimeout u ∧ (s.unit u).state = .opening) ∨
     (c = .raiseMidTimeout u ∧ (s.unit u).state = .liftingOut) ∨
     (c = .raiseParkTimeout u ∧ ((s.unit u).state = .raising ∨ (s.unit u).state = .retreating))) →
    ∃ t, exec c s = .next t ∧
      Faulted .unitStuck (.unit u)
        { s with
          units := s.units.set u { (s.unit u).ended with state := .stuck, retreat := false }
          arb := s.arb.release (.unit u), travel := { s.travel with drive := .stop }
          field := { s.field with sent := s.field.sent ++ [.unitCancel u n] ++ s.stopOrders } } t) ∧
  (∀ (c : Instr) (s : State) (o : LluOrder) (n : Nat), WorkheadSound s → s.llu.order = some (o, n) →
    ((c = .clampTimeout ∧ s.llu.state = .clamping) ∨ (c = .unclampTimeout ∧ s.llu.state = .releasing)) →
    ∃ t, exec c s = .next t ∧
      Faulted .clampFailed .llu
        { s with
          llu := { s.llu.ended with state := .stuck, clampsClosed := true, retreat := false }
          arb := s.arb.release .llu, field := { s.field with sent := s.field.sent ++ [.lluCancel n] } } t)

/-- A lowering that runs out of its time is cancelled and its grant released. With retries left the unit lifts to mid height for
another try; with none left the insertion is blocked: under CONTINUE the unit rises to park, and under HALT it retreats with its
result frozen and UNIT_BLOCKED goes to Job Control (R126, R128, R37).
The model's choices: log entries 6, 8, 9, 10 and 18. -/
def Obligations.InsertionRetriesOrIsBlocked : Prop :=
  ∀ (u : UnitId) (s : State) (o : UnitOrder) (n : Nat) (x : TUnit), x = s.unit u → x.Shaped → x.state = .lowering →
    x.order = some (o, n) →
    (x.retries < s.params.insertionRetries → NoRetreat s →
      ∃ t, exec (.insertionTimerExpiry u) s = .next t ∧
        UnitMoved u
          { (x.ended.asks .liftingOut).noting (fun r => { r with retriesUsed := r.retriesUsed + 1 }) with
            retries := x.retries + 1 }
          ((s.arb.release (.unit u)).request (.unit u)) [.unitCancel u n] s t) ∧
    (s.params.insertionRetries ≤ x.retries → s.params.policy = .goOn → NoRetreat s →
      ∃ t, exec (.insertionTimerExpiry u) s = .next t ∧
        UnitMoved u ((x.ended.asks .raising).noting (fun r => { r with blocked := true }))
          ((s.arb.release (.unit u)).request (.unit u)) [.unitCancel u n] s t) ∧
    (s.params.insertionRetries ≤ x.retries → s.params.policy = .halt → WorkheadSound s →
      ∃ t, exec (.insertionTimerExpiry u) s = .next t ∧
        Faulted .unitBlocked (.unit u)
          { s with
            units := s.units.set u
              { (x.ended.asks .retreating).noting (fun r => { r with blocked := true }) with retreat := true, frozen := true }
            arb := (s.arb.release (.unit u)).request (.unit u)
            field := { s.field with sent := s.field.sent ++ [.unitCancel u n] } } t)

/-- At the squeeze timer's expiry the squeeze is judged from the unit's pressure channel, unless the result is frozen: a LOST
channel sets PRESSURE_UNKNOWN, a value below nine tenths of the setpoint SQUEEZE_LOW; and OPEN replaces SQUEEZE with no CANCEL
(R91, R130, R133). -/
def Obligations.SqueezeIsJudgedAndOpens : Prop :=
  ∀ (u : UnitId) (s : State) (g : UnitSettings) (p : ChannelRec), (s.unit u).Shaped → (s.unit u).state = .squeezing →
    (s.unit u).timer.isSome = true → (s.unit u).settings = some g → NoRetreat s → p = s.meas.channels.get (.press u) →
    ∃ t x, exec (.squeezeTimerExpiry u) s = .next t ∧
      UnitMoved u { (s.unit u).ordered .opens 1000 with state := .opening, result := x } s.arb
        [.unit u .opens (numberAfter (s.unit u).orderNo)] s t ∧
      (if (s.unit u).frozen = true then x = (s.unit u).result
       else if p.state = .lost then x = { (s.unit u).result with pressureUnknown := true }
       else ∀ v, p.value = some v →
        x = if 9 * g.pressure ≤ 10 * v then (s.unit u).result else { (s.unit u).result with squeezeLow := true })

/-! ## The LLU -/

/-- The LLU's completions and the expiries of its two waiting timers: closed clamps record the baseline from the channels and begin
the lift, or SENSOR_LOST with one of them LOST (R147); open clamps begin the settle time, or, under a retreat, leave the LLU OPEN
(R155, R159); a join hold that expires is released with no entry active (R34, R154); and the settle expiry offers the next
samples (R156).
The model's choices: log entries 6, 8, 9, 10 and 18. -/
def Obligations.LluEventsGoOn : Prop :=
  ∀ s : State,
    (∀ n side d o level, s.llu.Shaped → s.llu.state = .clamping → s.llu.order = some (.clamp side, n) →
      s.llu.demands = some d → s.llu.hookEngaged = d.hook.isSome → s.llu.retreat = false →
      level = levelChannel s.params.grade →
      (NoRetreat s →
        (∀ ch ∈ [Channel.line, level, .cant], (s.meas.channels.get ch).state ≠ .lost) →
        (s.llu.hookEngaged = true → s.meas.channels.hook.state ≠ .lost) →
        o = LluOrder.liftLine d.lining d.left d.right (d.hook.map (·.1)) →
        ∃ t, exec (.clamped n) s = .next t ∧
          LluMoved
            { s.llu.ordered o s.params.liftTime with
              state := .lifting
              baseline := some ⟨s.meas.channels.line.current, (s.meas.channels.get level).current, s.meas.channels.cant.current,
                if s.llu.hookEngaged then some s.meas.channels.hook.current else none⟩
              achieved := some ⟨0, 0, 0, if s.llu.hookEngaged then some 0 else none⟩ }
            s.arb [.llu o (numberAfter s.llu.orderNo)] s t) ∧
      (WorkheadSound s →
        ((∃ ch ∈ [Channel.line, level, .cant], (s.meas.channels.get ch).state = .lost) ∨
          (s.llu.hookEngaged = true ∧ s.meas.channels.hook.state = .lost)) →
        ∃ t, exec (.clamped n) s = .next t ∧
          Faulted .sensorLost .llu { s with llu := s.llu.ended, arb := s.arb.release .llu } t)) ∧
    (∀ n, s.llu.Shaped → s.llu.state = .releasing → s.llu.order = some (.unclamp, n) →
      (NoRetreat s →
        ∃ t, exec (.unclamped n) s = .next t ∧
          LluMoved
            { s.llu.ended with
              state := .settling, clampsClosed := false, hookEngaged := false, settle := some s.params.settleTime }
            (s.arb.release .llu) [] s t) ∧
      (s.llu.retreat = true →
        ∃ t, exec (.unclamped n) s = .next t ∧
          LluMoved { s.llu.ended with state := .isOpen, clampsClosed := false, hookEngaged := false, retreat := false }
            { s.arb.release .llu with retreatMode := t.arb.retreatMode } [] s t ∧
          (t.arb.retreatMode = true ↔ s.arb.retreatMode = true ∧ ¬ RetreatOver t))) ∧
    (s.llu.state = .holding → s.llu.joinHold.isSome = true → NoRetreat s →
      ∃ t, exec .joinHoldExpiry s = .next t ∧
        t = { s with
          job := { s.job with phase := some .releasing }, engine := t.engine
          llu := { s.llu with state := .releasing, waiting := true, joinHold := none }
          arb := s.arb.request .llu, travel := t.travel, field := t.field, link := t.link } ∧
        (∀ c, s.engine = .held c → t.engine = .closing c) ∧ Issued s t []) ∧
    (s.llu.state = .settling → s.llu.settle.isSome = true →
      exec .lluSettleExpiry s = .next { s with llu := { s.llu with settle := none, count := 0 } })

/-- A lifting ends at demand when a sample finds every axis within the tolerance of its demand, when the force limit is met, or when
its time is over, the last two at the values of the sample before and with their flag; the gate then opens to the INSERTED units.
A sample short of the demand changes the achieved values alone (R148, R149, R150, R152). With every unit done before, the work of
the entry ends here: the LLU releases, or holds with the entry finished (R31).
The model's choices: log entries 6 and 16. -/
def Obligations.LiftingEndsAtDemand : Prop :=
  ∀ s : State, s.llu.state = .lifting → NoRetreat s → InsertedHaveSettings s → (∀ u, (s.unit u).Shaped) →
    (∀ n a b c h, s.llu.order = some (.liftLine a b c h, n) →
      ∃ t, exec (.forceLimit n) s = .next t ∧ LiftEnds { s.llu with lineForce := true } s.meas s t) ∧
    (s.llu.timer.isSome = true →
      ∃ t, exec .liftTimerExpiry s = .next t ∧ LiftEnds { s.llu with liftShort := true } s.meas s t) ∧
    (∀ (sample : Channels Reading) (d : Demands) (b : Baseline) (rail cantChange : Int) (a : Achieved),
      s.test.running = false → s.llu.demands = some d → s.llu.baseline = some b → s.llu.hookEngaged = d.hook.isSome →
      (∀ ch ∈ [Channel.line, levelChannel s.params.grade, .cant, .hook],
        (sample.get ch).valid = true ∧ (channelRange ch).1 ≤ (sample.get ch).value ∧
        (sample.get ch).value ≤ (channelRange ch).2) →
      rail = b.h0 - (sample.get (levelChannel s.params.grade)).value → cantChange = sample.cant.value - b.c0 →
      a.line = sample.line.value - b.m0 →
      (s.params.grade = .left → a.left = rail ∧ a.right = rail + cantChange) →
      (s.params.grade = .right → a.right = rail ∧ a.left = rail - cantChange) →
      (d.hook = none → a.hook = none) →
      (∀ lift side h0, d.hook = some (lift, side) → b.hook0 = some h0 → a.hook = some (sample.hook.value - h0)) →
      (d.hook.isSome = b.hook0.isSome) →
      ∃ t, exec (.sampleArrival sample) s = .next t ∧
        (a.Meets d s.params.liftTolerance → LiftEnds { s.llu with achieved := some a } ⟨takeSample s.meas.channels sample, some 20⟩ s t) ∧
        (¬ a.Meets d s.params.liftTolerance →
          t = { s with
            llu := { s.llu with achieved := some a }, meas := ⟨takeSample s.meas.channels sample, some 20⟩
            travel := t.travel, field := t.field, link := t.link } ∧
          Issued s t []))

/-- A sample offered after the settle time: usable when neither LINE nor the level channel of the record's grade rail is LOST, it
gives the residual; the fifth unusable one leaves it missing; one before that only counts. With the residual formed or missing
the record is used up, the trail record stands at C, the LLU is OPEN, the entry finishes and the position base becomes T; then
the job is COMPLETED behind an END entry, pauses when a pause is pending, activates the next READY entry, or starves. With no
entry active the residual goes into the held entry's result, with no second report, and the job goes on in the same three ways (R15,
R32, R34, R35, R67, R68, R95, R96, R157).
The model's choices: log entries 6 and 15. -/
def Obligations.ResidualEndsTheEntry : Prop :=
  ∀ (sample : Channels Reading) (s : State) (c : Correction) (m : Channels ChannelRec) (res : Option (Int × Int)),
    s.llu.state = .settling → s.llu.settle = none → s.engine = .closing c → NoRetreat s → s.test.running = false →
    m = takeSample s.meas.channels sample → res = residualOf c m →
    (res = none → s.llu.count + 1 < 5 →
      ∃ t, exec (.sampleArrival sample) s = .next t ∧
        t = { s with
          meas := ⟨m, some 20⟩, llu := { s.llu with count := s.llu.count + 1 }, travel := t.travel, field := t.field
          link := t.link } ∧ Issued s t []) ∧
    (s.job.state = .running → s.job.phase = some .releasing → res ≠ none ∨ 5 ≤ s.llu.count + 1 →
      ∃ t mid : State, exec (.sampleArrival sample) s = .next t ∧
        mid.meas = ⟨m, some 20⟩ ∧ mid.engine = .noRecord ∧
        mid.trail = s.trail.append ⟨c.c, res.map (·.1), res.map (·.2)⟩ ∧
        mid.llu = { s.llu with
          state := .isOpen, count := if res = none then s.llu.count + 1 else s.llu.count } ∧
        (∀ k x goal, OnlyWorking s.queue k x → x.state = .active → x.entry.joinedNext = false → s.travel.target = some goal →
          (∃ r, WorkedResult s k x res res.isNone r ∧
            mid = { s with
              meas := mid.meas, engine := mid.engine, trail := mid.trail, llu := mid.llu
              queue := { s.queue with slots := s.queue.slots.set k { x with state := r.final, result := some r } }
              job := { s.job with base := goal }
              link := s.link.place (.entryFinished r.slot r.number r.final) }) ∧
          (x.entry.isEnd = true →
            t = { mid with
              job := { mid.job with state := .idle, phase := none, pausePending := false, endReason := .completed }
              travel := t.travel, field := t.field, link := t.link } ∧
            Driven { mid with travel := { s.travel with state := .idle, settle := none } } t [] ∧
            t.link = (mid.link.place (.jobState ⟨.idle, none, .completed, s.job.halt, false, none⟩)).begin) ∧
          (x.entry.isEnd = false → GoesOn mid t)) ∧
        (∀ k x r, NoneWorking s.queue → s.queue.slots[k]? = some x → x.state.finished = true → x.result = some r →
          (∀ j y, k < j → s.queue.slots[j]? = some y → y.state.finished = false) →
          mid = { s with
            meas := mid.meas, engine := mid.engine, trail := mid.trail, llu := mid.llu
            queue := { s.queue with
              slots := s.queue.slots.set k { x with result := some { r with residual := res, residualMissing := res.isNone } } } } ∧
          GoesOn mid t))

/-! ## The workhead, the stop line, the arbiter -/

/-- The assertion of the stop line: the Positioner is IDLE with the drive STOP, the arbiter forgets its grants and requests, units
and LLU are HELD with their orders cancelled, a running self-test fails with STOP_LINE, and the fault STOP_LINE goes to Job
Control, whose retreat leaves the arbiter empty. Its release: the arbiter grants again, the HELD units open their tines or go up
to park with a new request, and a HELD LLU is OPEN or waits for them (R26, R105, R115, R138, R139, R160, R170, R191).
The model's choices: log entries 6, 7, 8, 9, 10 and 18, and 32 (VALVE_REST, sent when a running valve test ends, names the valve
under test). -/
def Obligations.StopLineHoldsAndFrees : Prop :=
  ∀ s : State, WorkheadSound s →
    (s.field.stopLine = false →
      ∃ t h, exec .stopLineAssertion s = .next t ∧
        h = { s with
          arb := h.arb, units := h.units, llu := s.llu.stopped, travel := s.idled.travel, test := h.test, field := h.field
          link := h.link } ∧
        (∀ u, h.unit u = (s.unit u).stopped s.entryInWork) ∧
        h.arb = { s.arb with
          stopMark := true, granted := [], waiting := [], slots := s.arb.pendingN.getD s.arb.slots, pendingN := none } ∧
        t.arb = { h.arb with retreatMode := t.arb.retreatMode } ∧
        (s.test.running = false → h.test = s.test ∧ h.link = s.link) ∧
        (∀ f, s.test.running = true → f = ⟨s.test.item.1, s.test.item.2, .stopLine, 0, 0⟩ →
          h.test = { s.test with running := false, timer := none, failure := some f } ∧
          h.link = s.link.place
            (.testDone .fail s.test.requested.1 s.test.requested.2 s.test.passed (some f))) ∧
        h.field = { s.field with
          stopLine := true
          sent := s.field.sent ++ s.stopOrders ++ (UnitId.all.flatMap fun u => (s.unit u).stopOrders u) ++ s.llu.stopOrders
            ++ (if s.test.running then s.test.restOrders else []) } ∧
        Faulted .stopLine .stopLine h t) ∧
    (s.field.stopLine = true →
      ∃ t held, exec .stopLineRelease s = .next t ∧
        t = { s with
          units := t.units, llu := t.llu, arb := t.arb, travel := t.travel, field := t.field, link := s.link.begin } ∧
        (∀ u, t.unit u =
          if (s.unit u).state ≠ .held then s.unit u
          else if (s.unit u).tinesClosed then { (s.unit u).sentOpening with retreat := true }
          else { (s.unit u).asks .retreating with retreat := true }) ∧
        held = (if s.llu.state ≠ .held then s.llu
          else if s.llu.clampsClosed then { s.llu with retreat := true }
          else { s.llu with state := .isOpen, retreat := false }) ∧
        RetreatFollowed held
          ((UnitId.all.filter fun u => (s.unit u).state == .held && !(s.unit u).tinesClosed).foldl
            (fun a u => a.request (.unit u)) ({ s.arb with stopMark := false } : Arbiter).grant) t ∧
        t.travel = { s.travel with drive := t.driveDue } ∧
        t.field =
          { stopLine := false
            sent := s.field.sent ++
              (UnitId.all.flatMap fun u =>
                if (s.unit u).state = .held ∧ (s.unit u).tinesClosed = true then
                  [.unit u .opens (numberAfter (s.unit u).orderNo)] else []) ++
              (if s.travel.drive = t.driveDue then [] else [.drive t.driveDue]) })

/-- With the queue sound, every step keeps the workhead sound: each unit and the LLU in a state their tables give, with its order
and timer; the units at rest whenever none is at work; the join hold only while nothing is active; and no unit squeezing unless
the track is at demand or held (R119, R123, R129, R143, R154). The queue stays sound by StepKeepsQueueInOrder.
The model's choice: log entry 8. -/
def Obligations.StepKeepsWorkheadSound : Prop :=
  ∀ s t : State, QueueSound s → WorkheadSound s → step s = .next t → WorkheadSound t

/-- Every step keeps the arbiter sound: no requester counts twice, no more grants are held than the slot count, no grant while the
stop line is asserted, and no requester waits while a grant is free (R162, R163, R166, R169, R170).
The model's choice: log entry 25. -/
def Obligations.StepKeepsArbiterSound : Prop :=
  ∀ s t : State, ArbiterSound s → step s = .next t → ArbiterSound t

/-! ## Self-test and restart -/

/-- A self-test runs the items its request names, each with its time, valve drive or destruction of memory; a read-back of the
valve under test counts until a later one, and a sample with a good value of the channel under test is counted; an item that
passes leads to the next, and the last, or the first failure, ends the test with one TEST DONE report (R187, R188, R189, R190).
The model's choice, on the valve that VALVE_REST names: log entry 32. -/
def Obligations.SelfTestRunsItsItems : Prop :=
  ∀ s : State,
    (∀ tag g i first rest, Takeable s ⟨0x0016, tag, [g, i]⟩ → s.test.running = false → s.job.state = .idle → AtPark s →
      first :: rest = testItems.filter (fun x =>
        (g.toNat == 0 && i.toNat == 0) || (x.1 == g.toNat && (i.toNat == 0 || x.2 == i.toNat))) →
      ∃ t, exec (.selfTest tag [g, i]) s = .next t ∧
        t = { s with test := t.test, queue := t.queue, table := t.table, field := t.field, link := t.link } ∧
        ItemStarted first rest 0 []
          { s with test := { s.test with running := true, requested := (g.toNat, i.toNat), failure := none } } t ∧
        Answered s t ⟨0x0016, tag, [g, i]⟩ (.testStarted (rest.length + 1)) []) ∧
    (∀ valve position, s.test.running = true → s.test.timer.isSome = true → s.test.item.1 = 1 →
      exec (.valveReadback valve position) s =
        .next (if valve = valveOf s.test.item.2 then { s with test := { s.test with readback := some position } } else s)) ∧
    (∀ sample ch, s.test.running = true → s.test.timer.isSome = true → s.test.item.1 = 2 → (s.test.item.2, ch) ∈ testChannels →
      s.llu.state ≠ .clamping → s.llu.state ≠ .lifting → s.llu.state ≠ .settling → NoRetreat s → DriveSound s →
      ∃ t, exec (.sampleArrival sample) s = .next t ∧
        t = { s with
          meas := ⟨takeSample s.meas.channels sample, some 20⟩, link := s.link.begin
          test := { s.test with
            seenGood := s.test.seenGood || ((sample.get ch).valid && decide ((channelRange ch).1 ≤ (sample.get ch).value) &&
              decide ((sample.get ch).value ≤ (channelRange ch).2)) } }) ∧
    (s.test.running = true → s.test.timer.isSome = true → DriveSound s →
      (∀ gi rest, s.test.Passes → s.test.rest = gi :: rest → gi ∈ testItems →
        ∃ t, exec .selfTestItemExpiry s = .next t ∧
          t = { s with test := t.test, queue := t.queue, table := t.table, field := t.field, link := s.link.begin } ∧
          ItemStarted gi rest (s.test.passed + 1) s.test.restOrders s t) ∧
      (s.test.Passes → s.test.rest = [] →
        ∃ t, exec .selfTestItemExpiry s = .next t ∧
          t = { s with
            test := { s.test with running := false, timer := none, passed := s.test.passed + 1, failure := none }
            field := { s.field with sent := s.field.sent ++ s.test.restOrders }
            link := (s.link.place
              (.testDone .pass s.test.requested.1 s.test.requested.2 (s.test.passed + 1) none)).begin }) ∧
      (∀ f, s.test.Fails f →
        ∃ t, exec .selfTestItemExpiry s = .next t ∧
          t = { s with
            test := { s.test with running := false, timer := none, failure := some f }
            field := { s.field with sent := s.field.sent ++ s.test.restOrders }
            link := (s.link.place
              (.testDone .fail s.test.requested.1 s.test.requested.2 s.test.passed (some f))).begin }) ∧
      (∀ (a b : Word) (f : FailureRecord), s.test.item.1 = 3 → f = ⟨3, s.test.item.2, .memory, a.toNat, b.toNat⟩ →
        exec (.memoryMismatch a b) s =
          .next { s with
            test := { s.test with running := false, timer := none, failure := some f }
            link := (s.link.place
              (.testDone .fail s.test.requested.1 s.test.requested.2 s.test.passed (some f))).begin }))

/-- RESTART in IDLE is accepted and makes the link wait; once its reply has gone, the restart empties link, queue, job, record,
trail and channels, keeps parameters and a VALID table, keeps the states of units and LLU, and makes each in a motion state cancel
its order and ask again, units before the LLU (R185, R186, R83, R87, R99, R117, R120, R144, R162).
The model's choices: log entries 6, 23 and 31. -/
def Obligations.RestartKeepsTheMachine : Prop :=
  (∀ (tag : Word) (s : State), Takeable s ⟨0x0017, tag, []⟩ → s.test.running = false → s.job.state = .idle →
    ∃ t, exec (.restart tag []) s = .next t ∧ t = { s with link := t.link } ∧
      Answered { s with link := { s.link with restartPending := true } } t ⟨0x0017, tag, []⟩ .accepted []) ∧
  (∀ s : State, s.link.restartPending = true → (∀ r ∈ s.link.replies, r.busy = true) →
    ∃ t, exec .restartEffect s = .next t ∧
      t.queue = ⟨0, []⟩ ∧ t.job = ⟨.idle, none, false, 0, none, .restart, ⟨false, false, false, false⟩⟩ ∧
      t.params = s.params ∧ t.engine = .noRecord ∧
      t.table = (if s.table.state = .valid then s.table else ⟨.empty, none, [], 0⟩) ∧
      (∀ c, t.meas.channels.get c = ⟨.lost, 5, none⟩) ∧ t.meas.timer = some 20 ∧ t.trail = ⟨[], 0⟩ ∧
      t.travel = ⟨0, none, .idle, 0, none, .stop⟩ ∧ t.test.running = false ∧ t.test.failure = none ∧ t.pending = s.pending ∧
      (∀ u, t.unit u =
        { s.unit u with
          settings := none, workOrdered := false, frozen := false, result := ⟨false, 0, 0, false, false, false⟩
          waiting := (s.unit u).waiting || (s.unit u).state.motion
          order := if (s.unit u).state.motion then none else (s.unit u).order
          timer := if (s.unit u).state.motion then none else (s.unit u).timer }) ∧
      t.llu = { s.llu with
        demands := none, baseline := none, achieved := none, reached := false, liftShort := false, lineForce := false
        waiting := s.llu.waiting || decide (s.llu.state = LluState.releasing)
        order := if s.llu.state = .releasing then none else s.llu.order
        timer := if s.llu.state = .releasing then none else s.llu.timer } ∧
      t.arb = ((UnitId.all.filter fun u => (s.unit u).state.motion).map Requester.unit ++
          (if s.llu.state = .releasing then [Requester.llu] else [])).foldl (fun a r => a.request r)
        { s.arb with
          slots := s.params.grantSlots, pendingN := none, granted := [], waiting := [], pointer := none
          retreatMode := false } ∧
      t.field = { s.field with
        sent := s.field.sent ++
          (UnitId.all.flatMap fun u => match (s.unit u).state.motion, (s.unit u).order with
            | true, some (_, n) => [.unitCancel u n]
            | _, _ => []) ++
          (match s.llu.state, s.llu.order with
            | .releasing, some (_, n) => [.lluCancel n]
            | _, _ => []) ++
          (if s.travel.drive = .stop then [] else [.drive .stop]) } ∧
      t.link =
        ({ receiver := .hunt, byteTimer := none, input := [], replies := []
           reports := [.jobState ⟨.idle, none, .restart, none, false, none⟩], lost := false, dropped := 0
           restartPending := false, line := s.link.line } : Link).begin)

end
end

