-- ==== Sys2Proof/Laws/Arbiter.lean ====
section
/-! SUPPORT. What each operation of the Flow Arbiter can do, and that each keeps the arbiter's record sound. -/

namespace Sys2Proof.Machine

/-- The part of soundness that a request or a release leaves at once, before the arbiter grants. -/
def Arbiter.Settled (a : Arbiter) : Prop :=
  a.granted.Nodup ∧ a.waiting.Nodup ∧ (∀ r ∈ a.granted, r ∉ a.waiting) ∧
  a.granted.length ≤ a.slots ∧ 2 ≤ a.slots ∧ a.slots ≤ 5 ∧
  (∀ n, a.pendingN = some n → 2 ≤ n ∧ n < a.granted.length) ∧
  (a.stopMark = true → a.granted = [])

theorem Arbiter.Sound.settled {a : Arbiter} (h : a.Sound) : a.Settled :=
  ⟨h.1, h.2.1, h.2.2.1, h.2.2.2.1, h.2.2.2.2.1, h.2.2.2.2.2.1, h.2.2.2.2.2.2.1, h.2.2.2.2.2.2.2.1⟩

/-- The requester chosen waits. -/
theorem Arbiter.choice_waits {a : Arbiter} {r : Requester} (h : a.choice = some r) : r ∈ a.waiting := by
  have hu : ∀ u, a.nextUnit = some u → Requester.unit u ∈ a.waiting := by
    intro u hu
    have := List.find?_some hu
    simpa using this
  have hl : ∀ r, (if a.waiting.contains .llu then some Requester.llu else none) = some r → r ∈ a.waiting := by
    intro r hr
    split at hr
    · cases hr; rename_i h; simpa using h
    · cases hr
  have hm : ∀ r, a.nextUnit.map Requester.unit = some r → r ∈ a.waiting := by
    intro r hr
    cases hn : a.nextUnit with
    | none => simp [hn] at hr
    | some u => simp [hn] at hr; subst hr; exact hu u hn
  unfold Arbiter.choice at h
  dsimp only at h
  split at h
  · rw [Option.or_eq_some_iff] at h
    rcases h with h | ⟨-, h⟩
    · exact hm r h
    · exact hl r h
  · rw [Option.or_eq_some_iff] at h
    rcases h with h | ⟨-, h⟩
    · exact hl r h
    · exact hm r h

/-- Somebody is chosen while somebody waits. -/
theorem Arbiter.choice_isSome {a : Arbiter} (h : a.waiting ≠ []) : a.choice.isSome = true := by
  obtain ⟨r, rest, hw⟩ := List.exists_cons_of_ne_nil h
  have hr : r ∈ a.waiting := by simp [hw]
  have key : (if a.waiting.contains .llu then some Requester.llu else none).isSome = true
      ∨ (a.nextUnit.map Requester.unit).isSome = true := by
    cases r with
    | llu => left; simp [hr]
    | unit u =>
      right
      rw [Option.isSome_map]
      unfold Arbiter.nextUnit
      rw [List.find?_isSome]
      refine ⟨u, ?_, by simpa using hr⟩
      cases a.pointer with
      | none => cases u <;> simp [cycleAfter]
      | some p => cases p <;> cases u <;> simp [cycleAfter]
  unfold Arbiter.choice
  dsimp only
  split <;> simp only [Option.isSome_or, Bool.or_eq_true] <;> tauto

/-- One grant keeps the record settled. -/
theorem Arbiter.Settled.grantTo {a : Arbiter} (h : a.Settled) (hc : a.canGrant = true) {r : Requester}
    (hr : r ∈ a.waiting) : (a.grantTo r).Settled := by
  obtain ⟨h1, h2, h3, h4, h5, h6, h7, h8⟩ := h
  simp only [Arbiter.canGrant, Bool.and_eq_true, Bool.not_eq_true', decide_eq_true_eq, Option.isNone_iff_eq_none] at hc
  obtain ⟨⟨⟨c1, c2⟩, c3⟩, c4⟩ := hc
  have hg : r ∉ a.granted := fun hx => h3 r hx hr
  refine ⟨?_, h2.erase r, ?_, ?_, h5, h6, ?_, ?_⟩
  · simp only [Arbiter.grantTo]
    rw [List.nodup_append]
    refine ⟨h1, by simp, ?_⟩
    intro x hx y hy
    simp only [List.mem_singleton] at hy
    subst hy
    rintro rfl
    exact hg hx
  · intro x hx
    simp only [Arbiter.grantTo, List.mem_append, List.mem_singleton] at hx ⊢
    rcases hx with hx | rfl
    · exact fun hy => h3 x hx (List.mem_of_mem_erase hy)
    · exact fun hy => (List.Nodup.not_mem_erase h2) hy
  · simp only [Arbiter.grantTo, List.length_append, List.length_singleton]
    omega
  · intro n hn
    simp only [Arbiter.grantTo] at hn
    rw [c2] at hn
    cases hn
  · intro hs
    simp only [Arbiter.grantTo] at hs
    rw [c1] at hs
    cases hs

/-- Granting changes only the two sets and the pointer. -/
@[simp] theorem Arbiter.grantLoop_keeps (n : Nat) (a : Arbiter) :
    (Arbiter.grantLoop n a).slots = a.slots ∧ (Arbiter.grantLoop n a).pendingN = a.pendingN ∧
    (Arbiter.grantLoop n a).retreatMode = a.retreatMode ∧ (Arbiter.grantLoop n a).stopMark = a.stopMark := by
  induction n generalizing a with
  | zero => simp [Arbiter.grantLoop]
  | succ n ih =>
    unfold Arbiter.grantLoop
    (repeat' split) <;> simp [ih, Arbiter.grantTo]

@[simp] theorem Arbiter.grant_keeps (a : Arbiter) :
    a.grant.slots = a.slots ∧ a.grant.pendingN = a.pendingN ∧ a.grant.retreatMode = a.retreatMode ∧
    a.grant.stopMark = a.stopMark := Arbiter.grantLoop_keeps _ a

/-- Granting from a settled record makes it sound, given as many rounds as there are requesters waiting. -/
theorem Arbiter.grantLoop_sound (n : Nat) (a : Arbiter) (h : a.Settled) (hn : a.waiting.length ≤ n) :
    (Arbiter.grantLoop n a).Sound := by
  induction n generalizing a with
  | zero =>
    have hw : a.waiting = [] := List.length_eq_zero_iff.mp (by omega)
    obtain ⟨h1, h2, h3, h4, h5, h6, h7, h8⟩ := h
    exact ⟨h1, h2, h3, h4, h5, h6, h7, h8, fun _ _ _ => hw⟩
  | succ n ih =>
    unfold Arbiter.grantLoop
    split
    · rename_i hc
      have hw : a.waiting ≠ [] := by
        simp only [Arbiter.canGrant, Bool.and_eq_true, Bool.not_eq_true'] at hc
        intro hw
        simp [hw] at hc
      cases hch : a.choice with
      | none => have := Arbiter.choice_isSome hw; simp [hch] at this
      | some r =>
        have hr := Arbiter.choice_waits hch
        refine ih _ (h.grantTo hc hr) ?_
        simp only [Arbiter.grantTo, List.length_erase_of_mem hr]
        omega
    · rename_i hc
      obtain ⟨h1, h2, h3, h4, h5, h6, h7, h8⟩ := h
      refine ⟨h1, h2, h3, h4, h5, h6, h7, h8, fun s1 s2 s3 => ?_⟩
      by_contra hw
      apply hc
      simp [Arbiter.canGrant, s1, s2, s3, hw]

theorem Arbiter.Settled.grant {a : Arbiter} (h : a.Settled) : a.grant.Sound := Arbiter.grantLoop_sound _ a h le_rfl

theorem Arbiter.Sound.request {a : Arbiter} (h : a.Sound) (r : Requester) : (a.request r).Sound := by
  unfold Arbiter.request
  split
  · exact h
  · rename_i hk
    simp only [Arbiter.knows, Bool.or_eq_true, List.contains_iff_mem, not_or] at hk
    refine Arbiter.Settled.grant ?_
    obtain ⟨h1, h2, h3, h4, h5, h6, h7, h8⟩ := h.settled
    refine ⟨h1, ?_, ?_, h4, h5, h6, h7, h8⟩
    · rw [List.nodup_append]
      refine ⟨h2, by simp, ?_⟩
      intro x hx y hy
      simp only [List.mem_singleton] at hy
      subst hy
      rintro rfl
      exact hk.2 hx
    · intro x hx
      simp only [List.mem_append, List.mem_singleton, not_or]
      exact ⟨h3 x hx, by rintro rfl; exact hk.1 hx⟩

theorem Arbiter.Sound.dropGrant {a : Arbiter} (h : a.Sound) {r : Requester} (hr : r ∈ a.granted) :
    (a.dropGrant r).Sound := by
  obtain ⟨h1, h2, h3, h4, h5, h6, h7, h8⟩ := h.settled
  have hl := List.length_erase_of_mem hr
  unfold Arbiter.dropGrant
  refine Arbiter.Settled.grant ?_
  have hsub : ∀ x ∈ a.granted.erase r, x ∉ a.waiting := fun x hx => h3 x (List.mem_of_mem_erase hx)
  have hstop : a.stopMark = true → a.granted.erase r = [] := fun hs => by simp [h8 hs]
  unfold Arbiter.takePending
  cases hp : a.pendingN with
  | none =>
    refine ⟨h1.erase r, h2, hsub, ?_, h5, h6, ?_, hstop⟩
    · simp only [hl]; omega
    · intro n hn; simp at hn
  | some n =>
    obtain ⟨h71, h72⟩ := h7 n hp
    dsimp only
    split
    · rename_i hle
      refine ⟨h1.erase r, h2, hsub, hle, h71, ?_, ?_, hstop⟩
      · show n ≤ 5
        omega
      · intro m hm; cases hm
    · rename_i hle
      refine ⟨h1.erase r, h2, hsub, ?_, h5, h6, ?_, hstop⟩
      · simp only [hl]; omega
      · intro m hm
        have : m = n := by simpa [hp] using hm.symm
        subst this
        exact ⟨h71, by simpa using hle⟩

theorem Arbiter.Sound.release {a : Arbiter} (h : a.Sound) (r : Requester) : (a.release r).Sound := by
  unfold Arbiter.release
  split
  · rename_i hr; exact h.dropGrant (by simpa using hr)
  · exact h

theorem Arbiter.Sound.withdraw {a : Arbiter} (h : a.Sound) (r : Requester) : (a.withdraw r).Sound := by
  unfold Arbiter.withdraw
  split
  · obtain ⟨h1, h2, h3, h4, h5, h6, h7, h8, h9⟩ := h
    refine ⟨h1, h2.erase r, fun x hx hy => h3 x hx (List.mem_of_mem_erase hy), h4, h5, h6, h7, h8, ?_⟩
    intro s1 s2 s3
    show a.waiting.erase r = []
    rw [h9 s1 s2 s3]; rfl
  · exact h.release r

theorem Arbiter.Sound.setSlots {a : Arbiter} (h : a.Sound) {n : Nat} (h2 : 2 ≤ n) (h5 : n ≤ 5) :
    (a.setSlots n).Sound := by
  obtain ⟨g1, g2, g3, g4, g5, g6, g7, g8, g9⟩ := h
  unfold Arbiter.setSlots
  split
  · rename_i hle
    refine Arbiter.Settled.grant ⟨g1, g2, g3, hle, h2, h5, ?_, g8⟩
    intro m hm; cases hm
  · rename_i hle
    refine ⟨g1, g2, g3, g4, g5, g6, ?_, g8, ?_⟩
    · intro m hm
      have : m = n := by simpa using hm.symm
      subst this
      exact ⟨h2, by simpa using hle⟩
    · intro _ hp; cases hp

theorem Arbiter.Sound.stop {a : Arbiter} (h : a.Sound) : a.stop.Sound := by
  obtain ⟨g1, g2, g3, g4, g5, g6, g7, g8, g9⟩ := h
  unfold Arbiter.stop
  refine ⟨List.nodup_nil, List.nodup_nil, by simp, by simp, ?_, ?_, ?_, by simp, by simp⟩
  · cases hp : a.pendingN with
    | none => exact g5
    | some n => exact (g7 n hp).1
  · cases hp : a.pendingN with
    | none => exact g6
    | some n => have := (g7 n hp).2; show n ≤ 5; omega
  · intro n hn; cases hn

theorem Arbiter.Sound.stopReleased {a : Arbiter} (h : a.Sound) : a.stopReleased.Sound := by
  obtain ⟨h1, h2, h3, h4, h5, h6, h7, h8⟩ := h.settled
  exact Arbiter.Settled.grant ⟨h1, h2, h3, h4, h5, h6, h7, by intro hs; cases hs⟩

theorem Arbiter.Sound.restarted {a : Arbiter} {n : Nat} (h2 : 2 ≤ n) (h5 : n ≤ 5) : (a.restarted n).Sound := by
  unfold Arbiter.restarted
  refine ⟨List.nodup_nil, List.nodup_nil, by simp, by simp, h2, h5, ?_, by simp, by simp⟩
  intro m hm; cases hm

theorem Arbiter.Sound.retreatMode {a : Arbiter} (h : a.Sound) (b : Bool) : ({ a with retreatMode := b } : Arbiter).Sound := h

/-! ## What the operations leave -/

/-- A request, a release and a withdrawal keep the retreat mode and the stop mark. -/
@[simp] theorem Arbiter.request_keeps (r : Requester) (a : Arbiter) :
    (a.request r).retreatMode = a.retreatMode ∧ (a.request r).stopMark = a.stopMark ∧ (a.request r).slots = a.slots := by
  unfold Arbiter.request
  split <;> simp

@[simp] theorem Arbiter.dropGrant_keeps (r : Requester) (a : Arbiter) :
    (a.dropGrant r).retreatMode = a.retreatMode ∧ (a.dropGrant r).stopMark = a.stopMark := by
  unfold Arbiter.dropGrant Arbiter.takePending
  (repeat' split) <;> simp

@[simp] theorem Arbiter.release_keeps (r : Requester) (a : Arbiter) :
    (a.release r).retreatMode = a.retreatMode ∧ (a.release r).stopMark = a.stopMark := by
  unfold Arbiter.release
  split <;> simp

@[simp] theorem Arbiter.withdraw_keeps (r : Requester) (a : Arbiter) :
    (a.withdraw r).retreatMode = a.retreatMode ∧ (a.withdraw r).stopMark = a.stopMark := by
  unfold Arbiter.withdraw
  split <;> simp

end Sys2Proof.Machine
end

