-- ==== Sys2Proof/Laws/State.lean ====
section
/-! SUPPORT. Reading a block after the update of a block, and a unit after the update of a unit: every equation is true by
definition, and no later proof unfolds an update. -/

namespace Sys2Proof

/-! ## Values by unit -/

@[simp] theorem Quad.get_set_self (q : Quad α) (u : UnitId) (x : α) : (q.set u x).get u = x := by cases u <;> rfl

theorem Quad.get_set_of_ne (q : Quad α) {u v : UnitId} (x : α) (h : v ≠ u) : (q.set u x).get v = q.get v := by
  cases u <;> cases v <;> first | rfl | exact absurd rfl h

@[simp] theorem Quad.get_map (f : α → β) (q : Quad α) (u : UnitId) : (q.map f).get u = f (q.get u) := by cases u <;> rfl

@[simp] theorem Quad.set_get (q : Quad α) (u : UnitId) : q.set u (q.get u) = q := by cases u <;> rfl

@[simp] theorem Quad.set_set (q : Quad α) (u : UnitId) (x y : α) : (q.set u x).set u y = q.set u y := by cases u <;> rfl

theorem Quad.all_iff (q : Quad α) (p : α → Bool) : q.all p = true ↔ ∀ u, p (q.get u) = true := by
  constructor
  · intro h u
    simp only [Quad.all, Bool.and_eq_true] at h
    cases u <;> simp only [Quad.get] <;> tauto
  · intro h
    simp only [Quad.all, Bool.and_eq_true]
    exact ⟨⟨⟨h .lo, h .li⟩, h .ri⟩, h .ro⟩

theorem Quad.any_iff (q : Quad α) (p : α → Bool) : q.any p = true ↔ ∃ u, p (q.get u) = true := by
  constructor
  · intro h
    simp only [Quad.any, Bool.or_eq_true] at h
    rcases h with ((h | h) | h) | h
    · exact ⟨.lo, h⟩
    · exact ⟨.li, h⟩
    · exact ⟨.ri, h⟩
    · exact ⟨.ro, h⟩
  · rintro ⟨u, h⟩
    simp only [Quad.any, Bool.or_eq_true]
    cases u <;> simp only [Quad.get] at h <;> tauto

theorem Quad.ext_get {q r : Quad α} (h : ∀ u, q.get u = r.get u) : q = r := by
  cases q; cases r
  have h1 := h .lo
  have h2 := h .li
  have h3 := h .ri
  have h4 := h .ro
  simp only [Quad.get] at h1 h2 h3 h4
  subst h1 h2 h3 h4
  rfl

namespace Machine

/-! ## Blocks -/

/-- The update of `link` sets that block and keeps the others. -/
@[simp] theorem State.setLink_reads (s : State) (v) :
    (s.setLink v).link = v ∧ (s.setLink v).queue = s.queue ∧ (s.setLink v).job = s.job ∧
    (s.setLink v).params = s.params ∧ (s.setLink v).engine = s.engine ∧ (s.setLink v).table = s.table ∧
    (s.setLink v).meas = s.meas ∧ (s.setLink v).trail = s.trail ∧ (s.setLink v).travel = s.travel ∧
    (s.setLink v).units = s.units ∧ (s.setLink v).llu = s.llu ∧ (s.setLink v).arb = s.arb ∧
    (s.setLink v).test = s.test ∧ (s.setLink v).field = s.field ∧ (s.setLink v).pending = s.pending :=
  ⟨rfl, rfl, rfl, rfl, rfl, rfl, rfl, rfl, rfl, rfl, rfl, rfl, rfl, rfl, rfl⟩

/-- The update of `queue` sets that block and keeps the others. -/
@[simp] theorem State.setQueue_reads (s : State) (v) :
    (s.setQueue v).queue = v ∧ (s.setQueue v).link = s.link ∧ (s.setQueue v).job = s.job ∧
    (s.setQueue v).params = s.params ∧ (s.setQueue v).engine = s.engine ∧ (s.setQueue v).table = s.table ∧
    (s.setQueue v).meas = s.meas ∧ (s.setQueue v).trail = s.trail ∧ (s.setQueue v).travel = s.travel ∧
    (s.setQueue v).units = s.units ∧ (s.setQueue v).llu = s.llu ∧ (s.setQueue v).arb = s.arb ∧
    (s.setQueue v).test = s.test ∧ (s.setQueue v).field = s.field ∧ (s.setQueue v).pending = s.pending :=
  ⟨rfl, rfl, rfl, rfl, rfl, rfl, rfl, rfl, rfl, rfl, rfl, rfl, rfl, rfl, rfl⟩

/-- The update of `job` sets that block and keeps the others. -/
@[simp] theorem State.setJob_reads (s : State) (v) :
    (s.setJob v).job = v ∧ (s.setJob v).link = s.link ∧ (s.setJob v).queue = s.queue ∧
    (s.setJob v).params = s.params ∧ (s.setJob v).engine = s.engine ∧ (s.setJob v).table = s.table ∧
    (s.setJob v).meas = s.meas ∧ (s.setJob v).trail = s.trail ∧ (s.setJob v).travel = s.travel ∧
    (s.setJob v).units = s.units ∧ (s.setJob v).llu = s.llu ∧ (s.setJob v).arb = s.arb ∧
    (s.setJob v).test = s.test ∧ (s.setJob v).field = s.field ∧ (s.setJob v).pending = s.pending :=
  ⟨rfl, rfl, rfl, rfl, rfl, rfl, rfl, rfl, rfl, rfl, rfl, rfl, rfl, rfl, rfl⟩

/-- The update of `params` sets that block and keeps the others. -/
@[simp] theorem State.setParams_reads (s : State) (v) :
    (s.setParams v).params = v ∧ (s.setParams v).link = s.link ∧ (s.setParams v).queue = s.queue ∧
    (s.setParams v).job = s.job ∧ (s.setParams v).engine = s.engine ∧ (s.setParams v).table = s.table ∧
    (s.setParams v).meas = s.meas ∧ (s.setParams v).trail = s.trail ∧ (s.setParams v).travel = s.travel ∧
    (s.setParams v).units = s.units ∧ (s.setParams v).llu = s.llu ∧ (s.setParams v).arb = s.arb ∧
    (s.setParams v).test = s.test ∧ (s.setParams v).field = s.field ∧ (s.setParams v).pending = s.pending :=
  ⟨rfl, rfl, rfl, rfl, rfl, rfl, rfl, rfl, rfl, rfl, rfl, rfl, rfl, rfl, rfl⟩

/-- The update of `engine` sets that block and keeps the others. -/
@[simp] theorem State.setEngine_reads (s : State) (v) :
    (s.setEngine v).engine = v ∧ (s.setEngine v).link = s.link ∧ (s.setEngine v).queue = s.queue ∧
    (s.setEngine v).job = s.job ∧ (s.setEngine v).params = s.params ∧ (s.setEngine v).table = s.table ∧
    (s.setEngine v).meas = s.meas ∧ (s.setEngine v).trail = s.trail ∧ (s.setEngine v).travel = s.travel ∧
    (s.setEngine v).units = s.units ∧ (s.setEngine v).llu = s.llu ∧ (s.setEngine v).arb = s.arb ∧
    (s.setEngine v).test = s.test ∧ (s.setEngine v).field = s.field ∧ (s.setEngine v).pending = s.pending :=
  ⟨rfl, rfl, rfl, rfl, rfl, rfl, rfl, rfl, rfl, rfl, rfl, rfl, rfl, rfl, rfl⟩

/-- The update of `table` sets that block and keeps the others. -/
@[simp] theorem State.setTable_reads (s : State) (v) :
    (s.setTable v).table = v ∧ (s.setTable v).link = s.link ∧ (s.setTable v).queue = s.queue ∧
    (s.setTable v).job = s.job ∧ (s.setTable v).params = s.params ∧ (s.setTable v).engine = s.engine ∧
    (s.setTable v).meas = s.meas ∧ (s.setTable v).trail = s.trail ∧ (s.setTable v).travel = s.travel ∧
    (s.setTable v).units = s.units ∧ (s.setTable v).llu = s.llu ∧ (s.setTable v).arb = s.arb ∧
    (s.setTable v).test = s.test ∧ (s.setTable v).field = s.field ∧ (s.setTable v).pending = s.pending :=
  ⟨rfl, rfl, rfl, rfl, rfl, rfl, rfl, rfl, rfl, rfl, rfl, rfl, rfl, rfl, rfl⟩

/-- The update of `meas` sets that block and keeps the others. -/
@[simp] theorem State.setMeas_reads (s : State) (v) :
    (s.setMeas v).meas = v ∧ (s.setMeas v).link = s.link ∧ (s.setMeas v).queue = s.queue ∧
    (s.setMeas v).job = s.job ∧ (s.setMeas v).params = s.params ∧ (s.setMeas v).engine = s.engine ∧
    (s.setMeas v).table = s.table ∧ (s.setMeas v).trail = s.trail ∧ (s.setMeas v).travel = s.travel ∧
    (s.setMeas v).units = s.units ∧ (s.setMeas v).llu = s.llu ∧ (s.setMeas v).arb = s.arb ∧
    (s.setMeas v).test = s.test ∧ (s.setMeas v).field = s.field ∧ (s.setMeas v).pending = s.pending :=
  ⟨rfl, rfl, rfl, rfl, rfl, rfl, rfl, rfl, rfl, rfl, rfl, rfl, rfl, rfl, rfl⟩

/-- The update of `trail` sets that block and keeps the others. -/
@[simp] theorem State.setTrail_reads (s : State) (v) :
    (s.setTrail v).trail = v ∧ (s.setTrail v).link = s.link ∧ (s.setTrail v).queue = s.queue ∧
    (s.setTrail v).job = s.job ∧ (s.setTrail v).params = s.params ∧ (s.setTrail v).engine = s.engine ∧
    (s.setTrail v).table = s.table ∧ (s.setTrail v).meas = s.meas ∧ (s.setTrail v).travel = s.travel ∧
    (s.setTrail v).units = s.units ∧ (s.setTrail v).llu = s.llu ∧ (s.setTrail v).arb = s.arb ∧
    (s.setTrail v).test = s.test ∧ (s.setTrail v).field = s.field ∧ (s.setTrail v).pending = s.pending :=
  ⟨rfl, rfl, rfl, rfl, rfl, rfl, rfl, rfl, rfl, rfl, rfl, rfl, rfl, rfl, rfl⟩

/-- The update of `travel` sets that block and keeps the others. -/
@[simp] theorem State.setTravel_reads (s : State) (v) :
    (s.setTravel v).travel = v ∧ (s.setTravel v).link = s.link ∧ (s.setTravel v).queue = s.queue ∧
    (s.setTravel v).job = s.job ∧ (s.setTravel v).params = s.params ∧ (s.setTravel v).engine = s.engine ∧
    (s.setTravel v).table = s.table ∧ (s.setTravel v).meas = s.meas ∧ (s.setTravel v).trail = s.trail ∧
    (s.setTravel v).units = s.units ∧ (s.setTravel v).llu = s.llu ∧ (s.setTravel v).arb = s.arb ∧
    (s.setTravel v).test = s.test ∧ (s.setTravel v).field = s.field ∧ (s.setTravel v).pending = s.pending :=
  ⟨rfl, rfl, rfl, rfl, rfl, rfl, rfl, rfl, rfl, rfl, rfl, rfl, rfl, rfl, rfl⟩

/-- The update of `units` sets that block and keeps the others. -/
@[simp] theorem State.setUnits_reads (s : State) (v) :
    (s.setUnits v).units = v ∧ (s.setUnits v).link = s.link ∧ (s.setUnits v).queue = s.queue ∧
    (s.setUnits v).job = s.job ∧ (s.setUnits v).params = s.params ∧ (s.setUnits v).engine = s.engine ∧
    (s.setUnits v).table = s.table ∧ (s.setUnits v).meas = s.meas ∧ (s.setUnits v).trail = s.trail ∧
    (s.setUnits v).travel = s.travel ∧ (s.setUnits v).llu = s.llu ∧ (s.setUnits v).arb = s.arb ∧
    (s.setUnits v).test = s.test ∧ (s.setUnits v).field = s.field ∧ (s.setUnits v).pending = s.pending :=
  ⟨rfl, rfl, rfl, rfl, rfl, rfl, rfl, rfl, rfl, rfl, rfl, rfl, rfl, rfl, rfl⟩

/-- The update of `llu` sets that block and keeps the others. -/
@[simp] theorem State.setLlu_reads (s : State) (v) :
    (s.setLlu v).llu = v ∧ (s.setLlu v).link = s.link ∧ (s.setLlu v).queue = s.queue ∧ (s.setLlu v).job = s.job ∧
    (s.setLlu v).params = s.params ∧ (s.setLlu v).engine = s.engine ∧ (s.setLlu v).table = s.table ∧
    (s.setLlu v).meas = s.meas ∧ (s.setLlu v).trail = s.trail ∧ (s.setLlu v).travel = s.travel ∧
    (s.setLlu v).units = s.units ∧ (s.setLlu v).arb = s.arb ∧ (s.setLlu v).test = s.test ∧
    (s.setLlu v).field = s.field ∧ (s.setLlu v).pending = s.pending :=
  ⟨rfl, rfl, rfl, rfl, rfl, rfl, rfl, rfl, rfl, rfl, rfl, rfl, rfl, rfl, rfl⟩

/-- The update of `arb` sets that block and keeps the others. -/
@[simp] theorem State.setArb_reads (s : State) (v) :
    (s.setArb v).arb = v ∧ (s.setArb v).link = s.link ∧ (s.setArb v).queue = s.queue ∧ (s.setArb v).job = s.job ∧
    (s.setArb v).params = s.params ∧ (s.setArb v).engine = s.engine ∧ (s.setArb v).table = s.table ∧
    (s.setArb v).meas = s.meas ∧ (s.setArb v).trail = s.trail ∧ (s.setArb v).travel = s.travel ∧
    (s.setArb v).units = s.units ∧ (s.setArb v).llu = s.llu ∧ (s.setArb v).test = s.test ∧
    (s.setArb v).field = s.field ∧ (s.setArb v).pending = s.pending :=
  ⟨rfl, rfl, rfl, rfl, rfl, rfl, rfl, rfl, rfl, rfl, rfl, rfl, rfl, rfl, rfl⟩

/-- The update of `test` sets that block and keeps the others. -/
@[simp] theorem State.setTest_reads (s : State) (v) :
    (s.setTest v).test = v ∧ (s.setTest v).link = s.link ∧ (s.setTest v).queue = s.queue ∧
    (s.setTest v).job = s.job ∧ (s.setTest v).params = s.params ∧ (s.setTest v).engine = s.engine ∧
    (s.setTest v).table = s.table ∧ (s.setTest v).meas = s.meas ∧ (s.setTest v).trail = s.trail ∧
    (s.setTest v).travel = s.travel ∧ (s.setTest v).units = s.units ∧ (s.setTest v).llu = s.llu ∧
    (s.setTest v).arb = s.arb ∧ (s.setTest v).field = s.field ∧ (s.setTest v).pending = s.pending :=
  ⟨rfl, rfl, rfl, rfl, rfl, rfl, rfl, rfl, rfl, rfl, rfl, rfl, rfl, rfl, rfl⟩

/-- The update of `field` sets that block and keeps the others. -/
@[simp] theorem State.setField_reads (s : State) (v) :
    (s.setField v).field = v ∧ (s.setField v).link = s.link ∧ (s.setField v).queue = s.queue ∧
    (s.setField v).job = s.job ∧ (s.setField v).params = s.params ∧ (s.setField v).engine = s.engine ∧
    (s.setField v).table = s.table ∧ (s.setField v).meas = s.meas ∧ (s.setField v).trail = s.trail ∧
    (s.setField v).travel = s.travel ∧ (s.setField v).units = s.units ∧ (s.setField v).llu = s.llu ∧
    (s.setField v).arb = s.arb ∧ (s.setField v).test = s.test ∧ (s.setField v).pending = s.pending :=
  ⟨rfl, rfl, rfl, rfl, rfl, rfl, rfl, rfl, rfl, rfl, rfl, rfl, rfl, rfl, rfl⟩

/-! ## Units and the LLU -/

@[simp] theorem unit_changeUnit_self (u : UnitId) (f : TUnit → TUnit) (s : State) :
    (changeUnit u f s).unit u = f (s.unit u) := by simp [changeUnit, State.unit]

theorem unit_changeUnit_of_ne {u v : UnitId} (f : TUnit → TUnit) (s : State) (h : v ≠ u) :
    (changeUnit u f s).unit v = s.unit v := by simp [changeUnit, State.unit, Quad.get_set_of_ne _ _ h]

@[simp] theorem llu_changeLlu (f : Llu → Llu) (s : State) : (changeLlu f s).llu = f s.llu := rfl

end Machine
end Sys2Proof
end

