-- ==== Sys2Proof/Laws/Frames.lean ====
section
/-! SUPPORT. The frame of every shared operation: the blocks it leaves as they are. No operation touches the stop line, and no
operation but the drive's own and those of positioning touches the travel record. -/

namespace Sys2Proof.Machine

/-! ## Ops -/

@[simp] theorem send_keeps (o : FieldOrder) (s : State) :
    (send o s).link = s.link ∧ (send o s).queue = s.queue ∧ (send o s).job = s.job ∧ (send o s).params = s.params ∧
    (send o s).engine = s.engine ∧ (send o s).table = s.table ∧ (send o s).meas = s.meas ∧
    (send o s).trail = s.trail ∧ (send o s).travel = s.travel ∧ (send o s).units = s.units ∧
    (send o s).llu = s.llu ∧ (send o s).arb = s.arb ∧ (send o s).test = s.test ∧ (send o s).pending = s.pending ∧
    (send o s).field.stopLine = s.field.stopLine := by
  simp [send]

@[simp] theorem place_keeps (r : Report) (s : State) :
    (place r s).queue = s.queue ∧ (place r s).job = s.job ∧ (place r s).params = s.params ∧
    (place r s).engine = s.engine ∧ (place r s).table = s.table ∧ (place r s).meas = s.meas ∧
    (place r s).trail = s.trail ∧ (place r s).travel = s.travel ∧ (place r s).units = s.units ∧
    (place r s).llu = s.llu ∧ (place r s).arb = s.arb ∧ (place r s).test = s.test ∧ (place r s).field = s.field ∧
    (place r s).pending = s.pending := by
  simp [place]

@[simp] theorem arbiter_keeps (f : Arbiter → Arbiter) (s : State) :
    (arbiter f s).link = s.link ∧ (arbiter f s).queue = s.queue ∧ (arbiter f s).job = s.job ∧
    (arbiter f s).params = s.params ∧ (arbiter f s).engine = s.engine ∧ (arbiter f s).table = s.table ∧
    (arbiter f s).meas = s.meas ∧ (arbiter f s).trail = s.trail ∧ (arbiter f s).travel = s.travel ∧
    (arbiter f s).units = s.units ∧ (arbiter f s).llu = s.llu ∧ (arbiter f s).test = s.test ∧
    (arbiter f s).field = s.field ∧ (arbiter f s).pending = s.pending := by
  simp [arbiter]

@[simp] theorem reportJob_keeps (s : State) :
    (reportJob s).queue = s.queue ∧ (reportJob s).job = s.job ∧ (reportJob s).params = s.params ∧
    (reportJob s).engine = s.engine ∧ (reportJob s).table = s.table ∧ (reportJob s).meas = s.meas ∧
    (reportJob s).trail = s.trail ∧ (reportJob s).travel = s.travel ∧ (reportJob s).units = s.units ∧
    (reportJob s).llu = s.llu ∧ (reportJob s).arb = s.arb ∧ (reportJob s).test = s.test ∧
    (reportJob s).field = s.field ∧ (reportJob s).pending = s.pending := by
  simp [reportJob]

@[simp] theorem issueDrive_keeps (s : State) :
    (issueDrive s).link = s.link ∧ (issueDrive s).queue = s.queue ∧ (issueDrive s).job = s.job ∧
    (issueDrive s).params = s.params ∧ (issueDrive s).engine = s.engine ∧ (issueDrive s).table = s.table ∧
    (issueDrive s).meas = s.meas ∧ (issueDrive s).trail = s.trail ∧ (issueDrive s).units = s.units ∧
    (issueDrive s).llu = s.llu ∧ (issueDrive s).arb = s.arb ∧ (issueDrive s).test = s.test ∧
    (issueDrive s).pending = s.pending ∧ (issueDrive s).field.stopLine = s.field.stopLine ∧
    (issueDrive s).travel.p = s.travel.p := by
  unfold issueDrive
  dsimp only
  split <;> simp

@[simp] theorem positionerIdle_keeps (s : State) :
    (positionerIdle s).link = s.link ∧ (positionerIdle s).queue = s.queue ∧ (positionerIdle s).job = s.job ∧
    (positionerIdle s).params = s.params ∧ (positionerIdle s).engine = s.engine ∧
    (positionerIdle s).table = s.table ∧ (positionerIdle s).meas = s.meas ∧ (positionerIdle s).trail = s.trail ∧
    (positionerIdle s).units = s.units ∧ (positionerIdle s).llu = s.llu ∧ (positionerIdle s).arb = s.arb ∧
    (positionerIdle s).test = s.test ∧ (positionerIdle s).pending = s.pending ∧
    (positionerIdle s).field.stopLine = s.field.stopLine ∧ (positionerIdle s).travel.p = s.travel.p := by
  simp [positionerIdle]

@[simp] theorem startSending_keeps (s : State) :
    (startSending s).queue = s.queue ∧ (startSending s).job = s.job ∧ (startSending s).params = s.params ∧
    (startSending s).engine = s.engine ∧ (startSending s).table = s.table ∧ (startSending s).meas = s.meas ∧
    (startSending s).trail = s.trail ∧ (startSending s).travel = s.travel ∧ (startSending s).units = s.units ∧
    (startSending s).llu = s.llu ∧ (startSending s).arb = s.arb ∧ (startSending s).test = s.test ∧
    (startSending s).field = s.field ∧ (startSending s).pending = s.pending := by
  simp [startSending]

@[simp] theorem conclude_keeps (s : State) :
    (conclude s).queue = s.queue ∧ (conclude s).job = s.job ∧ (conclude s).params = s.params ∧
    (conclude s).engine = s.engine ∧ (conclude s).table = s.table ∧ (conclude s).meas = s.meas ∧
    (conclude s).trail = s.trail ∧ (conclude s).units = s.units ∧ (conclude s).llu = s.llu ∧
    (conclude s).arb = s.arb ∧ (conclude s).test = s.test ∧ (conclude s).pending = s.pending ∧
    (conclude s).field.stopLine = s.field.stopLine ∧ (conclude s).travel.p = s.travel.p := by
  simp [conclude]

/-! ## Units -/

@[simp] theorem changeUnit_keeps (u : UnitId) (f : TUnit → TUnit) (s : State) :
    (changeUnit u f s).link = s.link ∧ (changeUnit u f s).queue = s.queue ∧ (changeUnit u f s).job = s.job ∧
    (changeUnit u f s).params = s.params ∧ (changeUnit u f s).engine = s.engine ∧
    (changeUnit u f s).table = s.table ∧ (changeUnit u f s).meas = s.meas ∧ (changeUnit u f s).trail = s.trail ∧
    (changeUnit u f s).travel = s.travel ∧ (changeUnit u f s).llu = s.llu ∧ (changeUnit u f s).arb = s.arb ∧
    (changeUnit u f s).test = s.test ∧ (changeUnit u f s).field = s.field ∧
    (changeUnit u f s).pending = s.pending := by
  simp [changeUnit]

@[simp] theorem orderUnit_keeps (u : UnitId) (o : UnitOrder) (ms : Nat) (s : State) :
    (orderUnit u o ms s).link = s.link ∧ (orderUnit u o ms s).queue = s.queue ∧ (orderUnit u o ms s).job = s.job ∧
    (orderUnit u o ms s).params = s.params ∧ (orderUnit u o ms s).engine = s.engine ∧
    (orderUnit u o ms s).table = s.table ∧ (orderUnit u o ms s).meas = s.meas ∧
    (orderUnit u o ms s).trail = s.trail ∧ (orderUnit u o ms s).travel = s.travel ∧
    (orderUnit u o ms s).llu = s.llu ∧ (orderUnit u o ms s).arb = s.arb ∧ (orderUnit u o ms s).test = s.test ∧
    (orderUnit u o ms s).pending = s.pending ∧ (orderUnit u o ms s).field.stopLine = s.field.stopLine := by
  simp [orderUnit]

@[simp] theorem cancelUnit_keeps (u : UnitId) (s : State) :
    (cancelUnit u s).link = s.link ∧ (cancelUnit u s).queue = s.queue ∧ (cancelUnit u s).job = s.job ∧
    (cancelUnit u s).params = s.params ∧ (cancelUnit u s).engine = s.engine ∧ (cancelUnit u s).table = s.table ∧
    (cancelUnit u s).meas = s.meas ∧ (cancelUnit u s).trail = s.trail ∧ (cancelUnit u s).travel = s.travel ∧
    (cancelUnit u s).llu = s.llu ∧ (cancelUnit u s).arb = s.arb ∧ (cancelUnit u s).test = s.test ∧
    (cancelUnit u s).pending = s.pending ∧ (cancelUnit u s).field.stopLine = s.field.stopLine := by
  unfold cancelUnit
  dsimp only
  split <;> simp

@[simp] theorem endUnitOrder_keeps (u : UnitId) (s : State) :
    (endUnitOrder u s).link = s.link ∧ (endUnitOrder u s).queue = s.queue ∧ (endUnitOrder u s).job = s.job ∧
    (endUnitOrder u s).params = s.params ∧ (endUnitOrder u s).engine = s.engine ∧
    (endUnitOrder u s).table = s.table ∧ (endUnitOrder u s).meas = s.meas ∧ (endUnitOrder u s).trail = s.trail ∧
    (endUnitOrder u s).travel = s.travel ∧ (endUnitOrder u s).llu = s.llu ∧ (endUnitOrder u s).arb = s.arb ∧
    (endUnitOrder u s).test = s.test ∧ (endUnitOrder u s).field = s.field ∧
    (endUnitOrder u s).pending = s.pending := by
  simp [endUnitOrder]

@[simp] theorem enterMotion_keeps (u : UnitId) (st : UnitState) (s : State) :
    (enterMotion u st s).link = s.link ∧ (enterMotion u st s).queue = s.queue ∧ (enterMotion u st s).job = s.job ∧
    (enterMotion u st s).params = s.params ∧ (enterMotion u st s).engine = s.engine ∧
    (enterMotion u st s).table = s.table ∧ (enterMotion u st s).meas = s.meas ∧
    (enterMotion u st s).trail = s.trail ∧ (enterMotion u st s).travel = s.travel ∧
    (enterMotion u st s).llu = s.llu ∧ (enterMotion u st s).test = s.test ∧ (enterMotion u st s).field = s.field ∧
    (enterMotion u st s).pending = s.pending := by
  simp [enterMotion]

@[simp] theorem releaseGrant_keeps (u : UnitId) (s : State) :
    (releaseGrant u s).link = s.link ∧ (releaseGrant u s).queue = s.queue ∧ (releaseGrant u s).job = s.job ∧
    (releaseGrant u s).params = s.params ∧ (releaseGrant u s).engine = s.engine ∧
    (releaseGrant u s).table = s.table ∧ (releaseGrant u s).meas = s.meas ∧ (releaseGrant u s).trail = s.trail ∧
    (releaseGrant u s).travel = s.travel ∧ (releaseGrant u s).units = s.units ∧ (releaseGrant u s).llu = s.llu ∧
    (releaseGrant u s).test = s.test ∧ (releaseGrant u s).field = s.field ∧
    (releaseGrant u s).pending = s.pending := by
  simp [releaseGrant]

@[simp] theorem leaveMotion_keeps (u : UnitId) (s : State) :
    (leaveMotion u s).link = s.link ∧ (leaveMotion u s).queue = s.queue ∧ (leaveMotion u s).job = s.job ∧
    (leaveMotion u s).params = s.params ∧ (leaveMotion u s).engine = s.engine ∧ (leaveMotion u s).table = s.table ∧
    (leaveMotion u s).meas = s.meas ∧ (leaveMotion u s).trail = s.trail ∧ (leaveMotion u s).travel = s.travel ∧
    (leaveMotion u s).llu = s.llu ∧ (leaveMotion u s).test = s.test ∧ (leaveMotion u s).pending = s.pending ∧
    (leaveMotion u s).field.stopLine = s.field.stopLine := by
  unfold leaveMotion
  split <;> simp

@[simp] theorem activateUnit_keeps (u : UnitId) (g : UnitSettings) (s : State) :
    (activateUnit u g s).link = s.link ∧ (activateUnit u g s).queue = s.queue ∧ (activateUnit u g s).job = s.job ∧
    (activateUnit u g s).params = s.params ∧ (activateUnit u g s).engine = s.engine ∧
    (activateUnit u g s).table = s.table ∧ (activateUnit u g s).meas = s.meas ∧
    (activateUnit u g s).trail = s.trail ∧ (activateUnit u g s).travel = s.travel ∧
    (activateUnit u g s).llu = s.llu ∧ (activateUnit u g s).test = s.test ∧ (activateUnit u g s).field = s.field ∧
    (activateUnit u g s).pending = s.pending := by
  unfold activateUnit
  dsimp only
  split <;> simp

@[simp] theorem activateUnits_keeps (g : Quad UnitSettings) (s : State) :
    (activateUnits g s).link = s.link ∧ (activateUnits g s).queue = s.queue ∧ (activateUnits g s).job = s.job ∧
    (activateUnits g s).params = s.params ∧ (activateUnits g s).engine = s.engine ∧
    (activateUnits g s).table = s.table ∧ (activateUnits g s).meas = s.meas ∧ (activateUnits g s).trail = s.trail ∧
    (activateUnits g s).travel = s.travel ∧ (activateUnits g s).llu = s.llu ∧ (activateUnits g s).test = s.test ∧
    (activateUnits g s).field = s.field ∧ (activateUnits g s).pending = s.pending := by
  simp [activateUnits]

@[simp] theorem workUnit_keeps (u : UnitId) (s : State) :
    (workUnit u s).link = s.link ∧ (workUnit u s).queue = s.queue ∧ (workUnit u s).job = s.job ∧
    (workUnit u s).params = s.params ∧ (workUnit u s).engine = s.engine ∧ (workUnit u s).table = s.table ∧
    (workUnit u s).meas = s.meas ∧ (workUnit u s).trail = s.trail ∧ (workUnit u s).travel = s.travel ∧
    (workUnit u s).llu = s.llu ∧ (workUnit u s).test = s.test ∧ (workUnit u s).field = s.field ∧
    (workUnit u s).pending = s.pending := by
  unfold workUnit
  dsimp only
  (repeat' split) <;> simp

@[simp] theorem workUnits_keeps (s : State) :
    (workUnits s).link = s.link ∧ (workUnits s).queue = s.queue ∧ (workUnits s).job = s.job ∧
    (workUnits s).params = s.params ∧ (workUnits s).engine = s.engine ∧ (workUnits s).table = s.table ∧
    (workUnits s).meas = s.meas ∧ (workUnits s).trail = s.trail ∧ (workUnits s).travel = s.travel ∧
    (workUnits s).llu = s.llu ∧ (workUnits s).test = s.test ∧ (workUnits s).field = s.field ∧
    (workUnits s).pending = s.pending := by
  simp [workUnits]

@[simp] theorem startSqueeze_keeps (u : UnitId) (s : State) :
    (startSqueeze u s).link = s.link ∧ (startSqueeze u s).queue = s.queue ∧ (startSqueeze u s).job = s.job ∧
    (startSqueeze u s).params = s.params ∧ (startSqueeze u s).engine = s.engine ∧
    (startSqueeze u s).table = s.table ∧ (startSqueeze u s).meas = s.meas ∧ (startSqueeze u s).trail = s.trail ∧
    (startSqueeze u s).travel = s.travel ∧ (startSqueeze u s).llu = s.llu ∧ (startSqueeze u s).arb = s.arb ∧
    (startSqueeze u s).test = s.test ∧ (startSqueeze u s).pending = s.pending ∧
    (startSqueeze u s).field.stopLine = s.field.stopLine := by
  simp [startSqueeze]

@[simp] theorem gateOpensFor_keeps (u : UnitId) (s : State) :
    (gateOpensFor u s).link = s.link ∧ (gateOpensFor u s).queue = s.queue ∧ (gateOpensFor u s).job = s.job ∧
    (gateOpensFor u s).params = s.params ∧ (gateOpensFor u s).engine = s.engine ∧
    (gateOpensFor u s).table = s.table ∧ (gateOpensFor u s).meas = s.meas ∧ (gateOpensFor u s).trail = s.trail ∧
    (gateOpensFor u s).travel = s.travel ∧ (gateOpensFor u s).llu = s.llu ∧ (gateOpensFor u s).arb = s.arb ∧
    (gateOpensFor u s).test = s.test ∧ (gateOpensFor u s).pending = s.pending ∧
    (gateOpensFor u s).field.stopLine = s.field.stopLine := by
  unfold gateOpensFor
  split <;> simp

@[simp] theorem openGate_keeps (s : State) :
    (openGate s).link = s.link ∧ (openGate s).queue = s.queue ∧ (openGate s).job = s.job ∧
    (openGate s).params = s.params ∧ (openGate s).engine = s.engine ∧ (openGate s).table = s.table ∧
    (openGate s).meas = s.meas ∧ (openGate s).trail = s.trail ∧ (openGate s).travel = s.travel ∧
    (openGate s).llu = s.llu ∧ (openGate s).arb = s.arb ∧ (openGate s).test = s.test ∧
    (openGate s).pending = s.pending ∧ (openGate s).field.stopLine = s.field.stopLine := by
  simp [openGate]

@[simp] theorem startOpening_keeps (u : UnitId) (s : State) :
    (startOpening u s).link = s.link ∧ (startOpening u s).queue = s.queue ∧ (startOpening u s).job = s.job ∧
    (startOpening u s).params = s.params ∧ (startOpening u s).engine = s.engine ∧
    (startOpening u s).table = s.table ∧ (startOpening u s).meas = s.meas ∧ (startOpening u s).trail = s.trail ∧
    (startOpening u s).travel = s.travel ∧ (startOpening u s).llu = s.llu ∧ (startOpening u s).arb = s.arb ∧
    (startOpening u s).test = s.test ∧ (startOpening u s).pending = s.pending ∧
    (startOpening u s).field.stopLine = s.field.stopLine := by
  simp [startOpening]

@[simp] theorem stickUnit_keeps (u : UnitId) (s : State) :
    (stickUnit u s).link = s.link ∧ (stickUnit u s).queue = s.queue ∧ (stickUnit u s).job = s.job ∧
    (stickUnit u s).params = s.params ∧ (stickUnit u s).engine = s.engine ∧ (stickUnit u s).table = s.table ∧
    (stickUnit u s).meas = s.meas ∧ (stickUnit u s).trail = s.trail ∧ (stickUnit u s).llu = s.llu ∧
    (stickUnit u s).test = s.test ∧ (stickUnit u s).pending = s.pending ∧
    (stickUnit u s).field.stopLine = s.field.stopLine ∧ (stickUnit u s).travel.p = s.travel.p := by
  simp [stickUnit]

@[simp] theorem markRetreat_keeps (u : UnitId) (s : State) :
    (markRetreat u s).link = s.link ∧ (markRetreat u s).queue = s.queue ∧ (markRetreat u s).job = s.job ∧
    (markRetreat u s).params = s.params ∧ (markRetreat u s).engine = s.engine ∧ (markRetreat u s).table = s.table ∧
    (markRetreat u s).meas = s.meas ∧ (markRetreat u s).trail = s.trail ∧ (markRetreat u s).travel = s.travel ∧
    (markRetreat u s).llu = s.llu ∧ (markRetreat u s).arb = s.arb ∧ (markRetreat u s).test = s.test ∧
    (markRetreat u s).field = s.field ∧ (markRetreat u s).pending = s.pending := by
  simp [markRetreat]

@[simp] theorem parkUnit_keeps (u : UnitId) (s : State) :
    (parkUnit u s).link = s.link ∧ (parkUnit u s).queue = s.queue ∧ (parkUnit u s).job = s.job ∧
    (parkUnit u s).params = s.params ∧ (parkUnit u s).engine = s.engine ∧ (parkUnit u s).table = s.table ∧
    (parkUnit u s).meas = s.meas ∧ (parkUnit u s).trail = s.trail ∧ (parkUnit u s).travel = s.travel ∧
    (parkUnit u s).llu = s.llu ∧ (parkUnit u s).arb = s.arb ∧ (parkUnit u s).test = s.test ∧
    (parkUnit u s).field = s.field ∧ (parkUnit u s).pending = s.pending := by
  simp [parkUnit]

@[simp] theorem retreatUnit_keeps (p : Bool) (u : UnitId) (s : State) :
    (retreatUnit p u s).link = s.link ∧ (retreatUnit p u s).queue = s.queue ∧ (retreatUnit p u s).job = s.job ∧
    (retreatUnit p u s).params = s.params ∧ (retreatUnit p u s).engine = s.engine ∧
    (retreatUnit p u s).table = s.table ∧ (retreatUnit p u s).meas = s.meas ∧ (retreatUnit p u s).trail = s.trail ∧
    (retreatUnit p u s).travel = s.travel ∧ (retreatUnit p u s).llu = s.llu ∧ (retreatUnit p u s).test = s.test ∧
    (retreatUnit p u s).pending = s.pending ∧ (retreatUnit p u s).field.stopLine = s.field.stopLine := by
  unfold retreatUnit
  dsimp only
  (repeat' split) <;> simp

@[simp] theorem retreatUnits_keeps (p : Bool) (s : State) :
    (retreatUnits p s).link = s.link ∧ (retreatUnits p s).queue = s.queue ∧ (retreatUnits p s).job = s.job ∧
    (retreatUnits p s).params = s.params ∧ (retreatUnits p s).engine = s.engine ∧
    (retreatUnits p s).table = s.table ∧ (retreatUnits p s).meas = s.meas ∧ (retreatUnits p s).trail = s.trail ∧
    (retreatUnits p s).travel = s.travel ∧ (retreatUnits p s).llu = s.llu ∧ (retreatUnits p s).test = s.test ∧
    (retreatUnits p s).pending = s.pending ∧ (retreatUnits p s).field.stopLine = s.field.stopLine := by
  simp [retreatUnits]

@[simp] theorem holdUnit_keeps (u : UnitId) (s : State) :
    (holdUnit u s).link = s.link ∧ (holdUnit u s).queue = s.queue ∧ (holdUnit u s).job = s.job ∧
    (holdUnit u s).params = s.params ∧ (holdUnit u s).engine = s.engine ∧ (holdUnit u s).table = s.table ∧
    (holdUnit u s).meas = s.meas ∧ (holdUnit u s).trail = s.trail ∧ (holdUnit u s).travel = s.travel ∧
    (holdUnit u s).llu = s.llu ∧ (holdUnit u s).arb = s.arb ∧ (holdUnit u s).test = s.test ∧
    (holdUnit u s).pending = s.pending ∧ (holdUnit u s).field.stopLine = s.field.stopLine := by
  unfold holdUnit
  split <;> simp

@[simp] theorem holdUnits_keeps (s : State) :
    (holdUnits s).link = s.link ∧ (holdUnits s).queue = s.queue ∧ (holdUnits s).job = s.job ∧
    (holdUnits s).params = s.params ∧ (holdUnits s).engine = s.engine ∧ (holdUnits s).table = s.table ∧
    (holdUnits s).meas = s.meas ∧ (holdUnits s).trail = s.trail ∧ (holdUnits s).travel = s.travel ∧
    (holdUnits s).llu = s.llu ∧ (holdUnits s).arb = s.arb ∧ (holdUnits s).test = s.test ∧
    (holdUnits s).pending = s.pending ∧ (holdUnits s).field.stopLine = s.field.stopLine := by
  simp [holdUnits]

@[simp] theorem resumeUnit_keeps (u : UnitId) (s : State) :
    (resumeUnit u s).link = s.link ∧ (resumeUnit u s).queue = s.queue ∧ (resumeUnit u s).job = s.job ∧
    (resumeUnit u s).params = s.params ∧ (resumeUnit u s).engine = s.engine ∧ (resumeUnit u s).table = s.table ∧
    (resumeUnit u s).meas = s.meas ∧ (resumeUnit u s).trail = s.trail ∧ (resumeUnit u s).travel = s.travel ∧
    (resumeUnit u s).llu = s.llu ∧ (resumeUnit u s).test = s.test ∧ (resumeUnit u s).pending = s.pending ∧
    (resumeUnit u s).field.stopLine = s.field.stopLine := by
  unfold resumeUnit
  dsimp only
  (repeat' split) <;> simp

@[simp] theorem resumeUnits_keeps (s : State) :
    (resumeUnits s).link = s.link ∧ (resumeUnits s).queue = s.queue ∧ (resumeUnits s).job = s.job ∧
    (resumeUnits s).params = s.params ∧ (resumeUnits s).engine = s.engine ∧ (resumeUnits s).table = s.table ∧
    (resumeUnits s).meas = s.meas ∧ (resumeUnits s).trail = s.trail ∧ (resumeUnits s).travel = s.travel ∧
    (resumeUnits s).llu = s.llu ∧ (resumeUnits s).test = s.test ∧ (resumeUnits s).pending = s.pending ∧
    (resumeUnits s).field.stopLine = s.field.stopLine := by
  simp [resumeUnits]

@[simp] theorem restartUnit_keeps (u : UnitId) (s : State) :
    (restartUnit u s).link = s.link ∧ (restartUnit u s).queue = s.queue ∧ (restartUnit u s).job = s.job ∧
    (restartUnit u s).params = s.params ∧ (restartUnit u s).engine = s.engine ∧ (restartUnit u s).table = s.table ∧
    (restartUnit u s).meas = s.meas ∧ (restartUnit u s).trail = s.trail ∧ (restartUnit u s).travel = s.travel ∧
    (restartUnit u s).llu = s.llu ∧ (restartUnit u s).test = s.test ∧ (restartUnit u s).pending = s.pending ∧
    (restartUnit u s).field.stopLine = s.field.stopLine := by
  unfold restartUnit
  dsimp only
  split <;> simp

@[simp] theorem restartUnits_keeps (s : State) :
    (restartUnits s).link = s.link ∧ (restartUnits s).queue = s.queue ∧ (restartUnits s).job = s.job ∧
    (restartUnits s).params = s.params ∧ (restartUnits s).engine = s.engine ∧ (restartUnits s).table = s.table ∧
    (restartUnits s).meas = s.meas ∧ (restartUnits s).trail = s.trail ∧ (restartUnits s).travel = s.travel ∧
    (restartUnits s).llu = s.llu ∧ (restartUnits s).test = s.test ∧ (restartUnits s).pending = s.pending ∧
    (restartUnits s).field.stopLine = s.field.stopLine := by
  simp [restartUnits]

/-! ## Lifting -/

@[simp] theorem changeLlu_keeps (f : Llu → Llu) (s : State) :
    (changeLlu f s).link = s.link ∧ (changeLlu f s).queue = s.queue ∧ (changeLlu f s).job = s.job ∧
    (changeLlu f s).params = s.params ∧ (changeLlu f s).engine = s.engine ∧ (changeLlu f s).table = s.table ∧
    (changeLlu f s).meas = s.meas ∧ (changeLlu f s).trail = s.trail ∧ (changeLlu f s).travel = s.travel ∧
    (changeLlu f s).units = s.units ∧ (changeLlu f s).arb = s.arb ∧ (changeLlu f s).test = s.test ∧
    (changeLlu f s).field = s.field ∧ (changeLlu f s).pending = s.pending := by
  simp [changeLlu]

@[simp] theorem orderLlu_keeps (o : LluOrder) (ms : Nat) (s : State) :
    (orderLlu o ms s).link = s.link ∧ (orderLlu o ms s).queue = s.queue ∧ (orderLlu o ms s).job = s.job ∧
    (orderLlu o ms s).params = s.params ∧ (orderLlu o ms s).engine = s.engine ∧ (orderLlu o ms s).table = s.table ∧
    (orderLlu o ms s).meas = s.meas ∧ (orderLlu o ms s).trail = s.trail ∧ (orderLlu o ms s).travel = s.travel ∧
    (orderLlu o ms s).units = s.units ∧ (orderLlu o ms s).arb = s.arb ∧ (orderLlu o ms s).test = s.test ∧
    (orderLlu o ms s).pending = s.pending ∧ (orderLlu o ms s).field.stopLine = s.field.stopLine := by
  simp [orderLlu]

@[simp] theorem cancelLlu_keeps (s : State) :
    (cancelLlu s).link = s.link ∧ (cancelLlu s).queue = s.queue ∧ (cancelLlu s).job = s.job ∧
    (cancelLlu s).params = s.params ∧ (cancelLlu s).engine = s.engine ∧ (cancelLlu s).table = s.table ∧
    (cancelLlu s).meas = s.meas ∧ (cancelLlu s).trail = s.trail ∧ (cancelLlu s).travel = s.travel ∧
    (cancelLlu s).units = s.units ∧ (cancelLlu s).arb = s.arb ∧ (cancelLlu s).test = s.test ∧
    (cancelLlu s).pending = s.pending ∧ (cancelLlu s).field.stopLine = s.field.stopLine := by
  unfold cancelLlu
  dsimp only
  split <;> simp

@[simp] theorem endLluOrder_keeps (s : State) :
    (endLluOrder s).link = s.link ∧ (endLluOrder s).queue = s.queue ∧ (endLluOrder s).job = s.job ∧
    (endLluOrder s).params = s.params ∧ (endLluOrder s).engine = s.engine ∧ (endLluOrder s).table = s.table ∧
    (endLluOrder s).meas = s.meas ∧ (endLluOrder s).trail = s.trail ∧ (endLluOrder s).travel = s.travel ∧
    (endLluOrder s).units = s.units ∧ (endLluOrder s).arb = s.arb ∧ (endLluOrder s).test = s.test ∧
    (endLluOrder s).field = s.field ∧ (endLluOrder s).pending = s.pending := by
  simp [endLluOrder]

@[simp] theorem releaseLluGrant_keeps (s : State) :
    (releaseLluGrant s).link = s.link ∧ (releaseLluGrant s).queue = s.queue ∧ (releaseLluGrant s).job = s.job ∧
    (releaseLluGrant s).params = s.params ∧ (releaseLluGrant s).engine = s.engine ∧
    (releaseLluGrant s).table = s.table ∧ (releaseLluGrant s).meas = s.meas ∧ (releaseLluGrant s).trail = s.trail ∧
    (releaseLluGrant s).travel = s.travel ∧ (releaseLluGrant s).units = s.units ∧ (releaseLluGrant s).llu = s.llu ∧
    (releaseLluGrant s).test = s.test ∧ (releaseLluGrant s).field = s.field ∧
    (releaseLluGrant s).pending = s.pending := by
  simp [releaseLluGrant]

@[simp] theorem leaveLluMotion_keeps (s : State) :
    (leaveLluMotion s).link = s.link ∧ (leaveLluMotion s).queue = s.queue ∧ (leaveLluMotion s).job = s.job ∧
    (leaveLluMotion s).params = s.params ∧ (leaveLluMotion s).engine = s.engine ∧
    (leaveLluMotion s).table = s.table ∧ (leaveLluMotion s).meas = s.meas ∧ (leaveLluMotion s).trail = s.trail ∧
    (leaveLluMotion s).travel = s.travel ∧ (leaveLluMotion s).units = s.units ∧ (leaveLluMotion s).test = s.test ∧
    (leaveLluMotion s).pending = s.pending ∧ (leaveLluMotion s).field.stopLine = s.field.stopLine := by
  unfold leaveLluMotion
  split <;> simp

@[simp] theorem lluWork_keeps (d : Demands) (s : State) :
    (lluWork d s).link = s.link ∧ (lluWork d s).queue = s.queue ∧ (lluWork d s).job = s.job ∧
    (lluWork d s).params = s.params ∧ (lluWork d s).engine = s.engine ∧ (lluWork d s).table = s.table ∧
    (lluWork d s).meas = s.meas ∧ (lluWork d s).trail = s.trail ∧ (lluWork d s).travel = s.travel ∧
    (lluWork d s).units = s.units ∧ (lluWork d s).test = s.test ∧ (lluWork d s).field = s.field ∧
    (lluWork d s).pending = s.pending := by
  unfold lluWork
  split <;> simp

@[simp] theorem reachDemand_keeps (s : State) :
    (reachDemand s).link = s.link ∧ (reachDemand s).queue = s.queue ∧ (reachDemand s).job = s.job ∧
    (reachDemand s).params = s.params ∧ (reachDemand s).engine = s.engine ∧ (reachDemand s).table = s.table ∧
    (reachDemand s).meas = s.meas ∧ (reachDemand s).trail = s.trail ∧ (reachDemand s).travel = s.travel ∧
    (reachDemand s).test = s.test ∧ (reachDemand s).pending = s.pending ∧
    (reachDemand s).field.stopLine = s.field.stopLine := by
  simp [reachDemand]

@[simp] theorem formAchieved_keeps (s : State) :
    (formAchieved s).link = s.link ∧ (formAchieved s).queue = s.queue ∧ (formAchieved s).job = s.job ∧
    (formAchieved s).params = s.params ∧ (formAchieved s).engine = s.engine ∧ (formAchieved s).table = s.table ∧
    (formAchieved s).meas = s.meas ∧ (formAchieved s).trail = s.trail ∧ (formAchieved s).travel = s.travel ∧
    (formAchieved s).units = s.units ∧ (formAchieved s).arb = s.arb ∧ (formAchieved s).test = s.test ∧
    (formAchieved s).field = s.field ∧ (formAchieved s).pending = s.pending := by
  unfold formAchieved
  split <;> simp

/-- All that the forming of the achieved values changes at the LLU. -/
theorem formAchieved_llu (s : State) :
    (formAchieved s).llu = { s.llu with achieved := s.achievedNow.or s.llu.achieved } := by
  unfold formAchieved
  split <;> simp_all [changeLlu]

@[simp] theorem lluHold_keeps (s : State) :
    (lluHold s).link = s.link ∧ (lluHold s).queue = s.queue ∧ (lluHold s).job = s.job ∧
    (lluHold s).params = s.params ∧ (lluHold s).engine = s.engine ∧ (lluHold s).table = s.table ∧
    (lluHold s).meas = s.meas ∧ (lluHold s).trail = s.trail ∧ (lluHold s).travel = s.travel ∧
    (lluHold s).units = s.units ∧ (lluHold s).arb = s.arb ∧ (lluHold s).test = s.test ∧
    (lluHold s).field = s.field ∧ (lluHold s).pending = s.pending := by
  unfold lluHold
  split <;> simp

@[simp] theorem startRelease_keeps (s : State) :
    (startRelease s).link = s.link ∧ (startRelease s).queue = s.queue ∧ (startRelease s).job = s.job ∧
    (startRelease s).params = s.params ∧ (startRelease s).engine = s.engine ∧ (startRelease s).table = s.table ∧
    (startRelease s).meas = s.meas ∧ (startRelease s).trail = s.trail ∧ (startRelease s).travel = s.travel ∧
    (startRelease s).units = s.units ∧ (startRelease s).test = s.test ∧ (startRelease s).field = s.field ∧
    (startRelease s).pending = s.pending := by
  simp [startRelease]

@[simp] theorem lluRelease_keeps (s : State) :
    (lluRelease s).link = s.link ∧ (lluRelease s).queue = s.queue ∧ (lluRelease s).job = s.job ∧
    (lluRelease s).params = s.params ∧ (lluRelease s).engine = s.engine ∧ (lluRelease s).table = s.table ∧
    (lluRelease s).meas = s.meas ∧ (lluRelease s).trail = s.trail ∧ (lluRelease s).travel = s.travel ∧
    (lluRelease s).units = s.units ∧ (lluRelease s).test = s.test ∧ (lluRelease s).field = s.field ∧
    (lluRelease s).pending = s.pending := by
  unfold lluRelease
  split <;> simp

@[simp] theorem openUnderRetreat_keeps (s : State) :
    (openUnderRetreat s).link = s.link ∧ (openUnderRetreat s).queue = s.queue ∧ (openUnderRetreat s).job = s.job ∧
    (openUnderRetreat s).params = s.params ∧ (openUnderRetreat s).engine = s.engine ∧
    (openUnderRetreat s).table = s.table ∧ (openUnderRetreat s).meas = s.meas ∧
    (openUnderRetreat s).trail = s.trail ∧ (openUnderRetreat s).travel = s.travel ∧
    (openUnderRetreat s).units = s.units ∧ (openUnderRetreat s).arb = s.arb ∧ (openUnderRetreat s).test = s.test ∧
    (openUnderRetreat s).field = s.field ∧ (openUnderRetreat s).pending = s.pending := by
  simp [openUnderRetreat]

@[simp] theorem lluRetreatOrder_keeps (p : Bool) (s : State) :
    (lluRetreatOrder p s).link = s.link ∧ (lluRetreatOrder p s).queue = s.queue ∧
    (lluRetreatOrder p s).job = s.job ∧ (lluRetreatOrder p s).params = s.params ∧
    (lluRetreatOrder p s).engine = s.engine ∧ (lluRetreatOrder p s).table = s.table ∧
    (lluRetreatOrder p s).meas = s.meas ∧ (lluRetreatOrder p s).trail = s.trail ∧
    (lluRetreatOrder p s).travel = s.travel ∧ (lluRetreatOrder p s).units = s.units ∧
    (lluRetreatOrder p s).test = s.test ∧ (lluRetreatOrder p s).pending = s.pending ∧
    (lluRetreatOrder p s).field.stopLine = s.field.stopLine := by
  unfold lluRetreatOrder
  dsimp only
  (repeat' split) <;> simp

@[simp] theorem lluRetreatRelease_keeps (s : State) :
    (lluRetreatRelease s).link = s.link ∧ (lluRetreatRelease s).queue = s.queue ∧
    (lluRetreatRelease s).job = s.job ∧ (lluRetreatRelease s).params = s.params ∧
    (lluRetreatRelease s).engine = s.engine ∧ (lluRetreatRelease s).table = s.table ∧
    (lluRetreatRelease s).meas = s.meas ∧ (lluRetreatRelease s).trail = s.trail ∧
    (lluRetreatRelease s).travel = s.travel ∧ (lluRetreatRelease s).units = s.units ∧
    (lluRetreatRelease s).test = s.test ∧ (lluRetreatRelease s).field = s.field ∧
    (lluRetreatRelease s).pending = s.pending := by
  unfold lluRetreatRelease
  split <;> simp

@[simp] theorem lluStop_keeps (s : State) :
    (lluStop s).link = s.link ∧ (lluStop s).queue = s.queue ∧ (lluStop s).job = s.job ∧
    (lluStop s).params = s.params ∧ (lluStop s).engine = s.engine ∧ (lluStop s).table = s.table ∧
    (lluStop s).meas = s.meas ∧ (lluStop s).trail = s.trail ∧ (lluStop s).travel = s.travel ∧
    (lluStop s).units = s.units ∧ (lluStop s).arb = s.arb ∧ (lluStop s).test = s.test ∧
    (lluStop s).pending = s.pending ∧ (lluStop s).field.stopLine = s.field.stopLine := by
  unfold lluStop
  split <;> simp

@[simp] theorem lluStopReleased_keeps (s : State) :
    (lluStopReleased s).link = s.link ∧ (lluStopReleased s).queue = s.queue ∧ (lluStopReleased s).job = s.job ∧
    (lluStopReleased s).params = s.params ∧ (lluStopReleased s).engine = s.engine ∧
    (lluStopReleased s).table = s.table ∧ (lluStopReleased s).meas = s.meas ∧ (lluStopReleased s).trail = s.trail ∧
    (lluStopReleased s).travel = s.travel ∧ (lluStopReleased s).units = s.units ∧ (lluStopReleased s).arb = s.arb ∧
    (lluStopReleased s).test = s.test ∧ (lluStopReleased s).field = s.field ∧
    (lluStopReleased s).pending = s.pending := by
  unfold lluStopReleased
  (repeat' split) <;> simp

@[simp] theorem restartLlu_keeps (s : State) :
    (restartLlu s).link = s.link ∧ (restartLlu s).queue = s.queue ∧ (restartLlu s).job = s.job ∧
    (restartLlu s).params = s.params ∧ (restartLlu s).engine = s.engine ∧ (restartLlu s).table = s.table ∧
    (restartLlu s).meas = s.meas ∧ (restartLlu s).trail = s.trail ∧ (restartLlu s).travel = s.travel ∧
    (restartLlu s).units = s.units ∧ (restartLlu s).test = s.test ∧ (restartLlu s).pending = s.pending ∧
    (restartLlu s).field.stopLine = s.field.stopLine := by
  unfold restartLlu
  dsimp only
  split <;> simp

/-! ## JobControl -/

@[simp] theorem startPositioning_keeps (s : State) :
    (startPositioning s).link = s.link ∧ (startPositioning s).queue = s.queue ∧ (startPositioning s).job = s.job ∧
    (startPositioning s).params = s.params ∧ (startPositioning s).engine = s.engine ∧
    (startPositioning s).table = s.table ∧ (startPositioning s).meas = s.meas ∧
    (startPositioning s).trail = s.trail ∧ (startPositioning s).units = s.units ∧
    (startPositioning s).llu = s.llu ∧ (startPositioning s).arb = s.arb ∧ (startPositioning s).test = s.test ∧
    (startPositioning s).field = s.field ∧ (startPositioning s).pending = s.pending ∧
    (startPositioning s).travel.drive = s.travel.drive ∧ (startPositioning s).travel.p = s.travel.p := by
  unfold startPositioning
  dsimp only
  (repeat' split) <;> simp

@[simp] theorem finishActive_keeps (st : SlotState) (r : Option (Int × Int)) (m : Bool) (c : Option FaultCode) (s : State) :
    (finishActive st r m c s).job = s.job ∧ (finishActive st r m c s).params = s.params ∧
    (finishActive st r m c s).engine = s.engine ∧ (finishActive st r m c s).table = s.table ∧
    (finishActive st r m c s).meas = s.meas ∧ (finishActive st r m c s).trail = s.trail ∧
    (finishActive st r m c s).travel = s.travel ∧ (finishActive st r m c s).units = s.units ∧
    (finishActive st r m c s).llu = s.llu ∧ (finishActive st r m c s).arb = s.arb ∧
    (finishActive st r m c s).test = s.test ∧ (finishActive st r m c s).field = s.field ∧
    (finishActive st r m c s).pending = s.pending := by
  unfold finishActive
  dsimp only
  split <;> simp

@[simp] theorem setPhase_keeps (p : Option Phase) (s : State) :
    (setPhase p s).link = s.link ∧ (setPhase p s).queue = s.queue ∧ (setPhase p s).params = s.params ∧
    (setPhase p s).engine = s.engine ∧ (setPhase p s).table = s.table ∧ (setPhase p s).meas = s.meas ∧
    (setPhase p s).trail = s.trail ∧ (setPhase p s).travel = s.travel ∧ (setPhase p s).units = s.units ∧
    (setPhase p s).llu = s.llu ∧ (setPhase p s).arb = s.arb ∧ (setPhase p s).test = s.test ∧
    (setPhase p s).field = s.field ∧ (setPhase p s).pending = s.pending := by
  simp [setPhase]

@[simp] theorem baseToTarget_keeps (s : State) :
    (baseToTarget s).link = s.link ∧ (baseToTarget s).queue = s.queue ∧ (baseToTarget s).params = s.params ∧
    (baseToTarget s).engine = s.engine ∧ (baseToTarget s).table = s.table ∧ (baseToTarget s).meas = s.meas ∧
    (baseToTarget s).trail = s.trail ∧ (baseToTarget s).travel = s.travel ∧ (baseToTarget s).units = s.units ∧
    (baseToTarget s).llu = s.llu ∧ (baseToTarget s).arb = s.arb ∧ (baseToTarget s).test = s.test ∧
    (baseToTarget s).field = s.field ∧ (baseToTarget s).pending = s.pending := by
  simp [baseToTarget]

@[simp] theorem continueChain_keeps (k : Nat) (b : Bool) (s : State) :
    (continueChain k b s).link = s.link ∧ (continueChain k b s).params = s.params ∧
    (continueChain k b s).table = s.table ∧ (continueChain k b s).meas = s.meas ∧
    (continueChain k b s).trail = s.trail ∧ (continueChain k b s).travel = s.travel ∧
    (continueChain k b s).units = s.units ∧ (continueChain k b s).arb = s.arb ∧
    (continueChain k b s).test = s.test ∧ (continueChain k b s).field = s.field ∧
    (continueChain k b s).pending = s.pending := by
  simp [continueChain]

@[simp] theorem positionEntry_keeps (s : State) :
    (positionEntry s).link = s.link ∧ (positionEntry s).queue = s.queue ∧ (positionEntry s).params = s.params ∧
    (positionEntry s).engine = s.engine ∧ (positionEntry s).table = s.table ∧ (positionEntry s).meas = s.meas ∧
    (positionEntry s).trail = s.trail ∧ (positionEntry s).units = s.units ∧ (positionEntry s).arb = s.arb ∧
    (positionEntry s).test = s.test ∧ (positionEntry s).field = s.field ∧ (positionEntry s).pending = s.pending ∧
    (positionEntry s).travel.drive = s.travel.drive ∧ (positionEntry s).travel.p = s.travel.p := by
  unfold positionEntry
  split <;> simp

@[simp] theorem activate_keeps (k : Nat) (s : State) :
    (activate k s).link = s.link ∧ (activate k s).params = s.params ∧ (activate k s).table = s.table ∧
    (activate k s).meas = s.meas ∧ (activate k s).trail = s.trail ∧ (activate k s).test = s.test ∧
    (activate k s).field = s.field ∧ (activate k s).pending = s.pending ∧
    (activate k s).travel.drive = s.travel.drive ∧ (activate k s).travel.p = s.travel.p := by
  unfold activate
  dsimp only
  (repeat' split) <;> simp

@[simp] theorem completeJob_keeps (s : State) :
    (completeJob s).queue = s.queue ∧ (completeJob s).params = s.params ∧ (completeJob s).engine = s.engine ∧
    (completeJob s).table = s.table ∧ (completeJob s).meas = s.meas ∧ (completeJob s).trail = s.trail ∧
    (completeJob s).units = s.units ∧ (completeJob s).llu = s.llu ∧ (completeJob s).arb = s.arb ∧
    (completeJob s).test = s.test ∧ (completeJob s).pending = s.pending ∧
    (completeJob s).field.stopLine = s.field.stopLine ∧ (completeJob s).travel.p = s.travel.p := by
  simp [completeJob]

@[simp] theorem pauseAtFinish_keeps (s : State) :
    (pauseAtFinish s).queue = s.queue ∧ (pauseAtFinish s).params = s.params ∧ (pauseAtFinish s).engine = s.engine ∧
    (pauseAtFinish s).table = s.table ∧ (pauseAtFinish s).meas = s.meas ∧ (pauseAtFinish s).trail = s.trail ∧
    (pauseAtFinish s).units = s.units ∧ (pauseAtFinish s).llu = s.llu ∧ (pauseAtFinish s).arb = s.arb ∧
    (pauseAtFinish s).test = s.test ∧ (pauseAtFinish s).pending = s.pending ∧
    (pauseAtFinish s).field.stopLine = s.field.stopLine ∧ (pauseAtFinish s).travel.p = s.travel.p := by
  simp [pauseAtFinish]

@[simp] theorem starve_keeps (s : State) :
    (starve s).link = s.link ∧ (starve s).queue = s.queue ∧ (starve s).params = s.params ∧
    (starve s).engine = s.engine ∧ (starve s).table = s.table ∧ (starve s).meas = s.meas ∧
    (starve s).trail = s.trail ∧ (starve s).units = s.units ∧ (starve s).llu = s.llu ∧ (starve s).arb = s.arb ∧
    (starve s).test = s.test ∧ (starve s).pending = s.pending ∧ (starve s).field.stopLine = s.field.stopLine ∧
    (starve s).travel.p = s.travel.p := by
  simp [starve]

@[simp] theorem finishHeld_keeps (s : State) :
    (finishHeld s).params = s.params ∧ (finishHeld s).table = s.table ∧ (finishHeld s).meas = s.meas ∧
    (finishHeld s).trail = s.trail ∧ (finishHeld s).travel = s.travel ∧ (finishHeld s).units = s.units ∧
    (finishHeld s).arb = s.arb ∧ (finishHeld s).test = s.test ∧ (finishHeld s).field = s.field ∧
    (finishHeld s).pending = s.pending := by
  simp [finishHeld]

@[simp] theorem beginRelease_keeps (s : State) :
    (beginRelease s).link = s.link ∧ (beginRelease s).queue = s.queue ∧ (beginRelease s).params = s.params ∧
    (beginRelease s).table = s.table ∧ (beginRelease s).meas = s.meas ∧ (beginRelease s).trail = s.trail ∧
    (beginRelease s).travel = s.travel ∧ (beginRelease s).units = s.units ∧ (beginRelease s).test = s.test ∧
    (beginRelease s).field = s.field ∧ (beginRelease s).pending = s.pending := by
  simp [beginRelease]

@[simp] theorem endOfWork_keeps (n : Nat) (s : State) :
    (endOfWork n s).params = s.params ∧ (endOfWork n s).table = s.table ∧ (endOfWork n s).meas = s.meas ∧
    (endOfWork n s).trail = s.trail ∧ (endOfWork n s).test = s.test ∧ (endOfWork n s).pending = s.pending ∧
    (endOfWork n s).field.stopLine = s.field.stopLine ∧ (endOfWork n s).travel.p = s.travel.p := by
  induction n generalizing s with
  | zero => simp [endOfWork]
  | succ n ih =>
    unfold endOfWork
    repeat' split
    all_goals simp [ih]

@[simp] theorem testEndOfWork_keeps (s : State) :
    (testEndOfWork s).params = s.params ∧ (testEndOfWork s).table = s.table ∧ (testEndOfWork s).meas = s.meas ∧
    (testEndOfWork s).trail = s.trail ∧ (testEndOfWork s).test = s.test ∧ (testEndOfWork s).pending = s.pending ∧
    (testEndOfWork s).field.stopLine = s.field.stopLine ∧ (testEndOfWork s).travel.p = s.travel.p := by
  simp [testEndOfWork]

@[simp] theorem activateSlot_keeps (k : Nat) (s : State) :
    (activateSlot k s).params = s.params ∧ (activateSlot k s).table = s.table ∧ (activateSlot k s).meas = s.meas ∧
    (activateSlot k s).trail = s.trail ∧ (activateSlot k s).test = s.test ∧
    (activateSlot k s).pending = s.pending ∧ (activateSlot k s).field.stopLine = s.field.stopLine ∧
    (activateSlot k s).travel.p = s.travel.p := by
  simp [activateSlot]

@[simp] theorem nextOrStarve_keeps (s : State) :
    (nextOrStarve s).params = s.params ∧ (nextOrStarve s).table = s.table ∧ (nextOrStarve s).meas = s.meas ∧
    (nextOrStarve s).trail = s.trail ∧ (nextOrStarve s).test = s.test ∧ (nextOrStarve s).pending = s.pending ∧
    (nextOrStarve s).field.stopLine = s.field.stopLine ∧ (nextOrStarve s).travel.p = s.travel.p := by
  unfold nextOrStarve
  split <;> simp

@[simp] theorem pauseOrNext_keeps (s : State) :
    (pauseOrNext s).params = s.params ∧ (pauseOrNext s).table = s.table ∧ (pauseOrNext s).meas = s.meas ∧
    (pauseOrNext s).trail = s.trail ∧ (pauseOrNext s).test = s.test ∧ (pauseOrNext s).pending = s.pending ∧
    (pauseOrNext s).field.stopLine = s.field.stopLine ∧ (pauseOrNext s).travel.p = s.travel.p := by
  unfold pauseOrNext
  split <;> simp

@[simp] theorem finishTests_keeps (b : Bool) (e : Entry) (s : State) :
    (finishTests b e s).params = s.params ∧ (finishTests b e s).table = s.table ∧
    (finishTests b e s).meas = s.meas ∧ (finishTests b e s).trail = s.trail ∧ (finishTests b e s).test = s.test ∧
    (finishTests b e s).pending = s.pending ∧ (finishTests b e s).field.stopLine = s.field.stopLine ∧
    (finishTests b e s).travel.p = s.travel.p := by
  unfold finishTests
  (repeat' split) <;> simp

@[simp] theorem endRetreat_keeps (s : State) :
    (endRetreat s).link = s.link ∧ (endRetreat s).queue = s.queue ∧ (endRetreat s).job = s.job ∧
    (endRetreat s).params = s.params ∧ (endRetreat s).engine = s.engine ∧ (endRetreat s).table = s.table ∧
    (endRetreat s).meas = s.meas ∧ (endRetreat s).trail = s.trail ∧ (endRetreat s).travel = s.travel ∧
    (endRetreat s).units = s.units ∧ (endRetreat s).llu = s.llu ∧ (endRetreat s).test = s.test ∧
    (endRetreat s).field = s.field ∧ (endRetreat s).pending = s.pending := by
  unfold endRetreat
  split <;> simp

@[simp] theorem followRetreat_keeps (s : State) :
    (followRetreat s).link = s.link ∧ (followRetreat s).queue = s.queue ∧ (followRetreat s).job = s.job ∧
    (followRetreat s).params = s.params ∧ (followRetreat s).engine = s.engine ∧ (followRetreat s).table = s.table ∧
    (followRetreat s).meas = s.meas ∧ (followRetreat s).trail = s.trail ∧ (followRetreat s).travel = s.travel ∧
    (followRetreat s).units = s.units ∧ (followRetreat s).test = s.test ∧ (followRetreat s).field = s.field ∧
    (followRetreat s).pending = s.pending := by
  simp [followRetreat]

@[simp] theorem commonRetreat_keeps (p : Bool) (s : State) :
    (commonRetreat p s).link = s.link ∧ (commonRetreat p s).queue = s.queue ∧ (commonRetreat p s).job = s.job ∧
    (commonRetreat p s).params = s.params ∧ (commonRetreat p s).engine = s.engine ∧
    (commonRetreat p s).table = s.table ∧ (commonRetreat p s).meas = s.meas ∧ (commonRetreat p s).trail = s.trail ∧
    (commonRetreat p s).test = s.test ∧ (commonRetreat p s).pending = s.pending ∧
    (commonRetreat p s).field.stopLine = s.field.stopLine ∧ (commonRetreat p s).travel.p = s.travel.p := by
  simp [commonRetreat]

@[simp] theorem State.faultActive_keeps (s : State) :
    (s.faultActive).link = s.link ∧ (s.faultActive).job = s.job ∧ (s.faultActive).params = s.params ∧
    (s.faultActive).engine = s.engine ∧ (s.faultActive).table = s.table ∧ (s.faultActive).meas = s.meas ∧
    (s.faultActive).trail = s.trail ∧ (s.faultActive).travel = s.travel ∧ (s.faultActive).units = s.units ∧
    (s.faultActive).llu = s.llu ∧ (s.faultActive).arb = s.arb ∧ (s.faultActive).test = s.test ∧
    (s.faultActive).field = s.field ∧ (s.faultActive).pending = s.pending := by
  simp [State.faultActive]

@[simp] theorem halt_keeps (c : FaultCode) (x : FaultSource) (s : State) :
    (halt c x s).params = s.params ∧ (halt c x s).table = s.table ∧ (halt c x s).meas = s.meas ∧
    (halt c x s).trail = s.trail ∧ (halt c x s).test = s.test ∧ (halt c x s).pending = s.pending ∧
    (halt c x s).field.stopLine = s.field.stopLine ∧ (halt c x s).travel.p = s.travel.p := by
  simp [halt]

@[simp] theorem recordFurther_keeps (c : FaultCode) (s : State) :
    (recordFurther c s).queue = s.queue ∧ (recordFurther c s).params = s.params ∧
    (recordFurther c s).engine = s.engine ∧ (recordFurther c s).table = s.table ∧
    (recordFurther c s).meas = s.meas ∧ (recordFurther c s).trail = s.trail ∧
    (recordFurther c s).travel = s.travel ∧ (recordFurther c s).units = s.units ∧ (recordFurther c s).llu = s.llu ∧
    (recordFurther c s).arb = s.arb ∧ (recordFurther c s).test = s.test ∧ (recordFurther c s).field = s.field ∧
    (recordFurther c s).pending = s.pending := by
  simp [recordFurther]

@[simp] theorem raiseFault_keeps (c : FaultCode) (x : FaultSource) (s : State) :
    (raiseFault c x s).params = s.params ∧ (raiseFault c x s).table = s.table ∧ (raiseFault c x s).meas = s.meas ∧
    (raiseFault c x s).trail = s.trail ∧ (raiseFault c x s).test = s.test ∧
    (raiseFault c x s).pending = s.pending ∧ (raiseFault c x s).field.stopLine = s.field.stopLine ∧
    (raiseFault c x s).travel.p = s.travel.p := by
  unfold raiseFault
  split <;> simp

@[simp] theorem inPosition_keeps (s : State) :
    (inPosition s).params = s.params ∧ (inPosition s).table = s.table ∧ (inPosition s).meas = s.meas ∧
    (inPosition s).trail = s.trail ∧ (inPosition s).test = s.test ∧ (inPosition s).pending = s.pending ∧
    (inPosition s).field.stopLine = s.field.stopLine ∧ (inPosition s).travel.p = s.travel.p := by
  unfold inPosition
  dsimp only
  (repeat' split) <;> simp

@[simp] theorem unitDone_keeps (u : UnitId) (s : State) :
    (unitDone u s).params = s.params ∧ (unitDone u s).table = s.table ∧ (unitDone u s).meas = s.meas ∧
    (unitDone u s).trail = s.trail ∧ (unitDone u s).test = s.test ∧ (unitDone u s).pending = s.pending ∧
    (unitDone u s).field.stopLine = s.field.stopLine ∧ (unitDone u s).travel.p = s.travel.p := by
  unfold unitDone
  dsimp only
  split <;> simp

@[simp] theorem unitSet_keeps (s : State) :
    (unitSet s).link = s.link ∧ (unitSet s).queue = s.queue ∧ (unitSet s).params = s.params ∧
    (unitSet s).engine = s.engine ∧ (unitSet s).table = s.table ∧ (unitSet s).meas = s.meas ∧
    (unitSet s).trail = s.trail ∧ (unitSet s).travel = s.travel ∧ (unitSet s).llu = s.llu ∧
    (unitSet s).test = s.test ∧ (unitSet s).field = s.field ∧ (unitSet s).pending = s.pending := by
  unfold unitSet
  split <;> simp

@[simp] theorem writeHeldResidual_keeps (r : Option (Int × Int)) (s : State) :
    (writeHeldResidual r s).link = s.link ∧ (writeHeldResidual r s).job = s.job ∧
    (writeHeldResidual r s).params = s.params ∧ (writeHeldResidual r s).engine = s.engine ∧
    (writeHeldResidual r s).table = s.table ∧ (writeHeldResidual r s).meas = s.meas ∧
    (writeHeldResidual r s).trail = s.trail ∧ (writeHeldResidual r s).travel = s.travel ∧
    (writeHeldResidual r s).units = s.units ∧ (writeHeldResidual r s).llu = s.llu ∧
    (writeHeldResidual r s).arb = s.arb ∧ (writeHeldResidual r s).test = s.test ∧
    (writeHeldResidual r s).field = s.field ∧ (writeHeldResidual r s).pending = s.pending := by
  unfold writeHeldResidual
  split <;> simp

@[simp] theorem lluReportsOpen_keeps (r : Option (Int × Int)) (s : State) :
    (lluReportsOpen r s).params = s.params ∧ (lluReportsOpen r s).table = s.table ∧
    (lluReportsOpen r s).meas = s.meas ∧ (lluReportsOpen r s).trail = s.trail ∧
    (lluReportsOpen r s).test = s.test ∧ (lluReportsOpen r s).pending = s.pending ∧
    (lluReportsOpen r s).field.stopLine = s.field.stopLine ∧ (lluReportsOpen r s).travel.p = s.travel.p := by
  unfold lluReportsOpen
  (repeat' split) <;> simp

@[simp] theorem giveUpHold_keeps (s : State) :
    (giveUpHold s).link = s.link ∧ (giveUpHold s).queue = s.queue ∧ (giveUpHold s).params = s.params ∧
    (giveUpHold s).table = s.table ∧ (giveUpHold s).meas = s.meas ∧ (giveUpHold s).trail = s.trail ∧
    (giveUpHold s).travel = s.travel ∧ (giveUpHold s).units = s.units ∧ (giveUpHold s).test = s.test ∧
    (giveUpHold s).field = s.field ∧ (giveUpHold s).pending = s.pending := by
  simp [giveUpHold]

@[simp] theorem entryLoaded_keeps (s : State) :
    (entryLoaded s).params = s.params ∧ (entryLoaded s).table = s.table ∧ (entryLoaded s).meas = s.meas ∧
    (entryLoaded s).trail = s.trail ∧ (entryLoaded s).test = s.test ∧ (entryLoaded s).pending = s.pending ∧
    (entryLoaded s).field.stopLine = s.field.stopLine ∧ (entryLoaded s).travel.p = s.travel.p := by
  unfold entryLoaded
  (repeat' split) <;> simp

/-! ## SelfTest -/

@[simp] theorem destroyMemory_keeps (i : Nat) (s : State) :
    (destroyMemory i s).link = s.link ∧ (destroyMemory i s).job = s.job ∧ (destroyMemory i s).params = s.params ∧
    (destroyMemory i s).engine = s.engine ∧ (destroyMemory i s).meas = s.meas ∧
    (destroyMemory i s).trail = s.trail ∧ (destroyMemory i s).travel = s.travel ∧
    (destroyMemory i s).units = s.units ∧ (destroyMemory i s).llu = s.llu ∧ (destroyMemory i s).arb = s.arb ∧
    (destroyMemory i s).test = s.test ∧ (destroyMemory i s).field = s.field ∧
    (destroyMemory i s).pending = s.pending := by
  unfold destroyMemory
  split <;> simp

@[simp] theorem startItem_keeps (i : Nat × Nat) (l : List (Nat × Nat)) (s : State) :
    (startItem i l s).link = s.link ∧ (startItem i l s).job = s.job ∧ (startItem i l s).params = s.params ∧
    (startItem i l s).engine = s.engine ∧ (startItem i l s).meas = s.meas ∧ (startItem i l s).trail = s.trail ∧
    (startItem i l s).travel = s.travel ∧ (startItem i l s).units = s.units ∧ (startItem i l s).llu = s.llu ∧
    (startItem i l s).arb = s.arb ∧ (startItem i l s).pending = s.pending ∧
    (startItem i l s).field.stopLine = s.field.stopLine := by
  unfold startItem
  (repeat' split) <;> simp

@[simp] theorem endTest_keeps (f : Option FailureRecord) (s : State) :
    (endTest f s).queue = s.queue ∧ (endTest f s).job = s.job ∧ (endTest f s).params = s.params ∧
    (endTest f s).engine = s.engine ∧ (endTest f s).table = s.table ∧ (endTest f s).meas = s.meas ∧
    (endTest f s).trail = s.trail ∧ (endTest f s).travel = s.travel ∧ (endTest f s).units = s.units ∧
    (endTest f s).llu = s.llu ∧ (endTest f s).arb = s.arb ∧ (endTest f s).field = s.field ∧
    (endTest f s).pending = s.pending := by
  simp [endTest]

@[simp] theorem restValve_keeps (s : State) :
    (restValve s).link = s.link ∧ (restValve s).queue = s.queue ∧ (restValve s).job = s.job ∧
    (restValve s).params = s.params ∧ (restValve s).engine = s.engine ∧ (restValve s).table = s.table ∧
    (restValve s).meas = s.meas ∧ (restValve s).trail = s.trail ∧ (restValve s).travel = s.travel ∧
    (restValve s).units = s.units ∧ (restValve s).llu = s.llu ∧ (restValve s).arb = s.arb ∧
    (restValve s).test = s.test ∧ (restValve s).pending = s.pending ∧
    (restValve s).field.stopLine = s.field.stopLine := by
  unfold restValve
  split <;> simp

@[simp] theorem judgeItem_keeps (s : State) :
    (judgeItem s).job = s.job ∧ (judgeItem s).params = s.params ∧ (judgeItem s).engine = s.engine ∧
    (judgeItem s).meas = s.meas ∧ (judgeItem s).trail = s.trail ∧ (judgeItem s).travel = s.travel ∧
    (judgeItem s).units = s.units ∧ (judgeItem s).llu = s.llu ∧ (judgeItem s).arb = s.arb ∧
    (judgeItem s).pending = s.pending ∧ (judgeItem s).field.stopLine = s.field.stopLine := by
  unfold judgeItem
  dsimp only
  (repeat' split) <;> simp

@[simp] theorem stopTest_keeps (s : State) :
    (stopTest s).queue = s.queue ∧ (stopTest s).job = s.job ∧ (stopTest s).params = s.params ∧
    (stopTest s).engine = s.engine ∧ (stopTest s).table = s.table ∧ (stopTest s).meas = s.meas ∧
    (stopTest s).trail = s.trail ∧ (stopTest s).travel = s.travel ∧ (stopTest s).units = s.units ∧
    (stopTest s).llu = s.llu ∧ (stopTest s).arb = s.arb ∧ (stopTest s).pending = s.pending ∧
    (stopTest s).field.stopLine = s.field.stopLine := by
  unfold stopTest
  split <;> simp

@[simp] theorem testSample_keeps (s : State) :
    (testSample s).link = s.link ∧ (testSample s).queue = s.queue ∧ (testSample s).job = s.job ∧
    (testSample s).params = s.params ∧ (testSample s).engine = s.engine ∧ (testSample s).table = s.table ∧
    (testSample s).meas = s.meas ∧ (testSample s).trail = s.trail ∧ (testSample s).travel = s.travel ∧
    (testSample s).units = s.units ∧ (testSample s).llu = s.llu ∧ (testSample s).arb = s.arb ∧
    (testSample s).field = s.field ∧ (testSample s).pending = s.pending := by
  unfold testSample
  dsimp only
  split <;> simp

/-! ## Events -/

@[simp] theorem lluSensorLost_keeps (s : State) :
    (lluSensorLost s).params = s.params ∧ (lluSensorLost s).table = s.table ∧ (lluSensorLost s).meas = s.meas ∧
    (lluSensorLost s).trail = s.trail ∧ (lluSensorLost s).test = s.test ∧ (lluSensorLost s).pending = s.pending ∧
    (lluSensorLost s).field.stopLine = s.field.stopLine ∧ (lluSensorLost s).travel.p = s.travel.p := by
  simp [lluSensorLost]

@[simp] theorem liftSample_keeps (s : State) :
    (liftSample s).params = s.params ∧ (liftSample s).table = s.table ∧ (liftSample s).meas = s.meas ∧
    (liftSample s).trail = s.trail ∧ (liftSample s).test = s.test ∧ (liftSample s).pending = s.pending ∧
    (liftSample s).field.stopLine = s.field.stopLine ∧ (liftSample s).travel.p = s.travel.p := by
  unfold liftSample
  split <;> simp

@[simp] theorem endMeasurement_keeps (r : Correction) (v : Option (Int × Int)) (s : State) :
    (endMeasurement r v s).params = s.params ∧ (endMeasurement r v s).table = s.table ∧
    (endMeasurement r v s).meas = s.meas ∧ (endMeasurement r v s).test = s.test ∧
    (endMeasurement r v s).pending = s.pending ∧ (endMeasurement r v s).field.stopLine = s.field.stopLine ∧
    (endMeasurement r v s).travel.p = s.travel.p := by
  simp [endMeasurement]

@[simp] theorem settleSample_keeps (s : State) :
    (settleSample s).params = s.params ∧ (settleSample s).table = s.table ∧ (settleSample s).meas = s.meas ∧
    (settleSample s).test = s.test ∧ (settleSample s).pending = s.pending ∧
    (settleSample s).field.stopLine = s.field.stopLine ∧ (settleSample s).travel.p = s.travel.p := by
  unfold settleSample
  dsimp only
  (repeat' split) <;> simp

@[simp] theorem lluSample_keeps (b : Channels ChannelRec) (s : State) :
    (lluSample b s).params = s.params ∧ (lluSample b s).table = s.table ∧ (lluSample b s).meas = s.meas ∧
    (lluSample b s).test = s.test ∧ (lluSample b s).pending = s.pending ∧
    (lluSample b s).field.stopLine = s.field.stopLine ∧ (lluSample b s).travel.p = s.travel.p := by
  unfold lluSample
  (repeat' split) <;> simp

@[simp] theorem updateChannels_keeps (x : Channels Reading) (s : State) :
    (updateChannels x s).link = s.link ∧ (updateChannels x s).queue = s.queue ∧ (updateChannels x s).job = s.job ∧
    (updateChannels x s).params = s.params ∧ (updateChannels x s).engine = s.engine ∧
    (updateChannels x s).table = s.table ∧ (updateChannels x s).trail = s.trail ∧
    (updateChannels x s).travel = s.travel ∧ (updateChannels x s).units = s.units ∧
    (updateChannels x s).llu = s.llu ∧ (updateChannels x s).arb = s.arb ∧ (updateChannels x s).test = s.test ∧
    (updateChannels x s).field = s.field ∧ (updateChannels x s).pending = s.pending := by
  simp [updateChannels]

@[simp] theorem takeSampleStep_keeps (x : Channels Reading) (s : State) :
    (takeSampleStep x s).params = s.params ∧ (takeSampleStep x s).table = s.table ∧
    (takeSampleStep x s).pending = s.pending ∧ (takeSampleStep x s).field.stopLine = s.field.stopLine ∧
    (takeSampleStep x s).travel.p = s.travel.p := by
  simp [takeSampleStep]

@[simp] theorem travelFault_keeps (c : FaultCode) (s : State) :
    (travelFault c s).params = s.params ∧ (travelFault c s).table = s.table ∧ (travelFault c s).meas = s.meas ∧
    (travelFault c s).trail = s.trail ∧ (travelFault c s).test = s.test ∧ (travelFault c s).pending = s.pending ∧
    (travelFault c s).field.stopLine = s.field.stopLine ∧ (travelFault c s).travel.p = s.travel.p := by
  simp [travelFault]

/-- The tests of a step keep P, the target, the reversal count and the drive order. -/
@[simp] theorem Travel.stepped_keeps (p : Params) (t : Travel) :
    (t.stepped p).p = t.p ∧ (t.stepped p).drive = t.drive ∧ (t.stepped p).target = t.target ∧
    (t.stepped p).reversals = t.reversals := by
  unfold Travel.stepped
  (repeat' split) <;> simp [stopAtTarget]

@[simp] theorem afterStep_keeps (b : Bool) (s : State) :
    (afterStep b s).params = s.params ∧ (afterStep b s).table = s.table ∧ (afterStep b s).meas = s.meas ∧
    (afterStep b s).trail = s.trail ∧ (afterStep b s).test = s.test ∧ (afterStep b s).pending = s.pending ∧
    (afterStep b s).field.stopLine = s.field.stopLine ∧ (afterStep b s).travel.p = s.travel.p := by
  unfold afterStep
  (repeat' split) <;> simp

@[simp] theorem judgeRest_keeps (s : State) :
    (judgeRest s).params = s.params ∧ (judgeRest s).table = s.table ∧ (judgeRest s).meas = s.meas ∧
    (judgeRest s).trail = s.trail ∧ (judgeRest s).test = s.test ∧ (judgeRest s).pending = s.pending ∧
    (judgeRest s).field.stopLine = s.field.stopLine ∧ (judgeRest s).travel.p = s.travel.p := by
  unfold judgeRest
  dsimp only
  (repeat' split) <;> simp

@[simp] theorem unitEvent_keeps (s : State) :
    (unitEvent s).queue = s.queue ∧ (unitEvent s).job = s.job ∧ (unitEvent s).params = s.params ∧
    (unitEvent s).engine = s.engine ∧ (unitEvent s).table = s.table ∧ (unitEvent s).meas = s.meas ∧
    (unitEvent s).trail = s.trail ∧ (unitEvent s).units = s.units ∧ (unitEvent s).test = s.test ∧
    (unitEvent s).pending = s.pending ∧ (unitEvent s).field.stopLine = s.field.stopLine ∧
    (unitEvent s).travel.p = s.travel.p := by
  simp [unitEvent]

@[simp] theorem takeUnitGrant_keeps (u : UnitId) (s : State) :
    (takeUnitGrant u s).link = s.link ∧ (takeUnitGrant u s).queue = s.queue ∧ (takeUnitGrant u s).job = s.job ∧
    (takeUnitGrant u s).params = s.params ∧ (takeUnitGrant u s).engine = s.engine ∧
    (takeUnitGrant u s).table = s.table ∧ (takeUnitGrant u s).meas = s.meas ∧ (takeUnitGrant u s).trail = s.trail ∧
    (takeUnitGrant u s).travel = s.travel ∧ (takeUnitGrant u s).llu = s.llu ∧ (takeUnitGrant u s).test = s.test ∧
    (takeUnitGrant u s).pending = s.pending ∧ (takeUnitGrant u s).field.stopLine = s.field.stopLine := by
  unfold takeUnitGrant
  dsimp only
  (repeat' split) <;> simp

@[simp] theorem endMotion_keeps (u : UnitId) (s : State) :
    (endMotion u s).link = s.link ∧ (endMotion u s).queue = s.queue ∧ (endMotion u s).job = s.job ∧
    (endMotion u s).params = s.params ∧ (endMotion u s).engine = s.engine ∧ (endMotion u s).table = s.table ∧
    (endMotion u s).meas = s.meas ∧ (endMotion u s).trail = s.trail ∧ (endMotion u s).travel = s.travel ∧
    (endMotion u s).llu = s.llu ∧ (endMotion u s).test = s.test ∧ (endMotion u s).field = s.field ∧
    (endMotion u s).pending = s.pending := by
  simp [endMotion]

@[simp] theorem setUnitState_keeps (u : UnitId) (st : UnitState) (s : State) :
    (setUnitState u st s).link = s.link ∧ (setUnitState u st s).queue = s.queue ∧
    (setUnitState u st s).job = s.job ∧ (setUnitState u st s).params = s.params ∧
    (setUnitState u st s).engine = s.engine ∧ (setUnitState u st s).table = s.table ∧
    (setUnitState u st s).meas = s.meas ∧ (setUnitState u st s).trail = s.trail ∧
    (setUnitState u st s).travel = s.travel ∧ (setUnitState u st s).llu = s.llu ∧
    (setUnitState u st s).arb = s.arb ∧ (setUnitState u st s).test = s.test ∧
    (setUnitState u st s).field = s.field ∧ (setUnitState u st s).pending = s.pending := by
  simp [setUnitState]

@[simp] theorem shiftDone_keeps (u : UnitId) (s : State) :
    (shiftDone u s).link = s.link ∧ (shiftDone u s).queue = s.queue ∧ (shiftDone u s).params = s.params ∧
    (shiftDone u s).engine = s.engine ∧ (shiftDone u s).table = s.table ∧ (shiftDone u s).meas = s.meas ∧
    (shiftDone u s).trail = s.trail ∧ (shiftDone u s).travel = s.travel ∧ (shiftDone u s).llu = s.llu ∧
    (shiftDone u s).test = s.test ∧ (shiftDone u s).field = s.field ∧ (shiftDone u s).pending = s.pending := by
  unfold shiftDone
  dsimp only
  split <;> simp

@[simp] theorem depthDone_keeps (u : UnitId) (s : State) :
    (depthDone u s).link = s.link ∧ (depthDone u s).queue = s.queue ∧ (depthDone u s).job = s.job ∧
    (depthDone u s).params = s.params ∧ (depthDone u s).engine = s.engine ∧ (depthDone u s).table = s.table ∧
    (depthDone u s).meas = s.meas ∧ (depthDone u s).trail = s.trail ∧ (depthDone u s).travel = s.travel ∧
    (depthDone u s).llu = s.llu ∧ (depthDone u s).test = s.test ∧ (depthDone u s).pending = s.pending ∧
    (depthDone u s).field.stopLine = s.field.stopLine := by
  unfold depthDone
  dsimp only
  split <;> simp

@[simp] theorem insertionDone_keeps (u : UnitId) (s : State) :
    (insertionDone u s).link = s.link ∧ (insertionDone u s).queue = s.queue ∧ (insertionDone u s).job = s.job ∧
    (insertionDone u s).params = s.params ∧ (insertionDone u s).engine = s.engine ∧
    (insertionDone u s).table = s.table ∧ (insertionDone u s).meas = s.meas ∧ (insertionDone u s).trail = s.trail ∧
    (insertionDone u s).travel = s.travel ∧ (insertionDone u s).llu = s.llu ∧ (insertionDone u s).test = s.test ∧
    (insertionDone u s).field = s.field ∧ (insertionDone u s).pending = s.pending := by
  unfold insertionDone
  dsimp only
  split <;> simp

@[simp] theorem tinesDone_keeps (u : UnitId) (s : State) :
    (tinesDone u s).link = s.link ∧ (tinesDone u s).queue = s.queue ∧ (tinesDone u s).job = s.job ∧
    (tinesDone u s).params = s.params ∧ (tinesDone u s).engine = s.engine ∧ (tinesDone u s).table = s.table ∧
    (tinesDone u s).meas = s.meas ∧ (tinesDone u s).trail = s.trail ∧ (tinesDone u s).travel = s.travel ∧
    (tinesDone u s).llu = s.llu ∧ (tinesDone u s).test = s.test ∧ (tinesDone u s).field = s.field ∧
    (tinesDone u s).pending = s.pending := by
  unfold tinesDone
  dsimp only
  split <;> simp

@[simp] theorem parkDone_keeps (u : UnitId) (s : State) :
    (parkDone u s).params = s.params ∧ (parkDone u s).table = s.table ∧ (parkDone u s).meas = s.meas ∧
    (parkDone u s).trail = s.trail ∧ (parkDone u s).test = s.test ∧ (parkDone u s).pending = s.pending ∧
    (parkDone u s).field.stopLine = s.field.stopLine ∧ (parkDone u s).travel.p = s.travel.p := by
  unfold parkDone
  dsimp only
  split <;> simp

@[simp] theorem unitStuck_keeps (u : UnitId) (s : State) :
    (unitStuck u s).params = s.params ∧ (unitStuck u s).table = s.table ∧ (unitStuck u s).meas = s.meas ∧
    (unitStuck u s).trail = s.trail ∧ (unitStuck u s).test = s.test ∧ (unitStuck u s).pending = s.pending ∧
    (unitStuck u s).field.stopLine = s.field.stopLine ∧ (unitStuck u s).travel.p = s.travel.p := by
  simp [unitStuck]

@[simp] theorem retryInsertion_keeps (u : UnitId) (s : State) :
    (retryInsertion u s).link = s.link ∧ (retryInsertion u s).queue = s.queue ∧ (retryInsertion u s).job = s.job ∧
    (retryInsertion u s).params = s.params ∧ (retryInsertion u s).engine = s.engine ∧
    (retryInsertion u s).table = s.table ∧ (retryInsertion u s).meas = s.meas ∧
    (retryInsertion u s).trail = s.trail ∧ (retryInsertion u s).travel = s.travel ∧
    (retryInsertion u s).llu = s.llu ∧ (retryInsertion u s).test = s.test ∧ (retryInsertion u s).field = s.field ∧
    (retryInsertion u s).pending = s.pending := by
  simp [retryInsertion]

@[simp] theorem blockInsertion_keeps (u : UnitId) (s : State) :
    (blockInsertion u s).params = s.params ∧ (blockInsertion u s).table = s.table ∧
    (blockInsertion u s).meas = s.meas ∧ (blockInsertion u s).trail = s.trail ∧
    (blockInsertion u s).test = s.test ∧ (blockInsertion u s).pending = s.pending ∧
    (blockInsertion u s).field.stopLine = s.field.stopLine ∧ (blockInsertion u s).travel.p = s.travel.p := by
  unfold blockInsertion
  dsimp only
  split <;> simp

@[simp] theorem insertionExpired_keeps (u : UnitId) (s : State) :
    (insertionExpired u s).params = s.params ∧ (insertionExpired u s).table = s.table ∧
    (insertionExpired u s).meas = s.meas ∧ (insertionExpired u s).trail = s.trail ∧
    (insertionExpired u s).test = s.test ∧ (insertionExpired u s).pending = s.pending ∧
    (insertionExpired u s).field.stopLine = s.field.stopLine ∧ (insertionExpired u s).travel.p = s.travel.p := by
  unfold insertionExpired
  dsimp only
  split <;> simp

@[simp] theorem squeezeExpired_keeps (u : UnitId) (s : State) :
    (squeezeExpired u s).link = s.link ∧ (squeezeExpired u s).queue = s.queue ∧ (squeezeExpired u s).job = s.job ∧
    (squeezeExpired u s).params = s.params ∧ (squeezeExpired u s).engine = s.engine ∧
    (squeezeExpired u s).table = s.table ∧ (squeezeExpired u s).meas = s.meas ∧
    (squeezeExpired u s).trail = s.trail ∧ (squeezeExpired u s).travel = s.travel ∧
    (squeezeExpired u s).llu = s.llu ∧ (squeezeExpired u s).arb = s.arb ∧ (squeezeExpired u s).test = s.test ∧
    (squeezeExpired u s).pending = s.pending ∧ (squeezeExpired u s).field.stopLine = s.field.stopLine := by
  simp [squeezeExpired]

@[simp] theorem lluEvent_keeps (s : State) :
    (lluEvent s).queue = s.queue ∧ (lluEvent s).job = s.job ∧ (lluEvent s).params = s.params ∧
    (lluEvent s).engine = s.engine ∧ (lluEvent s).table = s.table ∧ (lluEvent s).meas = s.meas ∧
    (lluEvent s).trail = s.trail ∧ (lluEvent s).units = s.units ∧ (lluEvent s).test = s.test ∧
    (lluEvent s).pending = s.pending ∧ (lluEvent s).field.stopLine = s.field.stopLine ∧
    (lluEvent s).travel.p = s.travel.p := by
  simp [lluEvent]

@[simp] theorem startClamp_keeps (s : State) :
    (startClamp s).link = s.link ∧ (startClamp s).queue = s.queue ∧ (startClamp s).job = s.job ∧
    (startClamp s).params = s.params ∧ (startClamp s).engine = s.engine ∧ (startClamp s).table = s.table ∧
    (startClamp s).meas = s.meas ∧ (startClamp s).trail = s.trail ∧ (startClamp s).travel = s.travel ∧
    (startClamp s).units = s.units ∧ (startClamp s).arb = s.arb ∧ (startClamp s).test = s.test ∧
    (startClamp s).pending = s.pending ∧ (startClamp s).field.stopLine = s.field.stopLine := by
  simp [startClamp]

@[simp] theorem startUnclamp_keeps (s : State) :
    (startUnclamp s).link = s.link ∧ (startUnclamp s).queue = s.queue ∧ (startUnclamp s).job = s.job ∧
    (startUnclamp s).params = s.params ∧ (startUnclamp s).engine = s.engine ∧ (startUnclamp s).table = s.table ∧
    (startUnclamp s).meas = s.meas ∧ (startUnclamp s).trail = s.trail ∧ (startUnclamp s).travel = s.travel ∧
    (startUnclamp s).units = s.units ∧ (startUnclamp s).arb = s.arb ∧ (startUnclamp s).test = s.test ∧
    (startUnclamp s).pending = s.pending ∧ (startUnclamp s).field.stopLine = s.field.stopLine := by
  simp [startUnclamp]

@[simp] theorem takeLluGrant_keeps (s : State) :
    (takeLluGrant s).link = s.link ∧ (takeLluGrant s).queue = s.queue ∧ (takeLluGrant s).job = s.job ∧
    (takeLluGrant s).params = s.params ∧ (takeLluGrant s).engine = s.engine ∧ (takeLluGrant s).table = s.table ∧
    (takeLluGrant s).meas = s.meas ∧ (takeLluGrant s).trail = s.trail ∧ (takeLluGrant s).travel = s.travel ∧
    (takeLluGrant s).units = s.units ∧ (takeLluGrant s).test = s.test ∧ (takeLluGrant s).pending = s.pending ∧
    (takeLluGrant s).field.stopLine = s.field.stopLine := by
  unfold takeLluGrant
  (repeat' split) <;> simp

@[simp] theorem startLift_keeps (s : State) :
    (startLift s).link = s.link ∧ (startLift s).queue = s.queue ∧ (startLift s).job = s.job ∧
    (startLift s).params = s.params ∧ (startLift s).engine = s.engine ∧ (startLift s).table = s.table ∧
    (startLift s).meas = s.meas ∧ (startLift s).trail = s.trail ∧ (startLift s).travel = s.travel ∧
    (startLift s).units = s.units ∧ (startLift s).arb = s.arb ∧ (startLift s).test = s.test ∧
    (startLift s).pending = s.pending ∧ (startLift s).field.stopLine = s.field.stopLine := by
  simp [startLift]

@[simp] theorem clampDone_keeps (s : State) :
    (clampDone s).params = s.params ∧ (clampDone s).table = s.table ∧ (clampDone s).meas = s.meas ∧
    (clampDone s).trail = s.trail ∧ (clampDone s).test = s.test ∧ (clampDone s).pending = s.pending ∧
    (clampDone s).field.stopLine = s.field.stopLine ∧ (clampDone s).travel.p = s.travel.p := by
  unfold clampDone
  dsimp only
  split <;> simp

@[simp] theorem unclampDone_keeps (s : State) :
    (unclampDone s).link = s.link ∧ (unclampDone s).queue = s.queue ∧ (unclampDone s).job = s.job ∧
    (unclampDone s).params = s.params ∧ (unclampDone s).engine = s.engine ∧ (unclampDone s).table = s.table ∧
    (unclampDone s).meas = s.meas ∧ (unclampDone s).trail = s.trail ∧ (unclampDone s).travel = s.travel ∧
    (unclampDone s).units = s.units ∧ (unclampDone s).test = s.test ∧ (unclampDone s).field = s.field ∧
    (unclampDone s).pending = s.pending := by
  unfold unclampDone
  dsimp only
  split <;> simp

@[simp] theorem clampFailed_keeps (s : State) :
    (clampFailed s).params = s.params ∧ (clampFailed s).table = s.table ∧ (clampFailed s).meas = s.meas ∧
    (clampFailed s).trail = s.trail ∧ (clampFailed s).test = s.test ∧ (clampFailed s).pending = s.pending ∧
    (clampFailed s).field.stopLine = s.field.stopLine ∧ (clampFailed s).travel.p = s.travel.p := by
  simp [clampFailed]

end Sys2Proof.Machine
end

