-- ==== Sys2Proof/Laws/ArbiterOps.lean ====
section
/-! SUPPORT. Every operation that reaches the Flow Arbiter keeps its record sound. -/

namespace Sys2Proof.Machine

@[simp] theorem enterMotion_arb (u : UnitId) (st : UnitState) {s : State} (h : s.arb.Sound) :
    (enterMotion u st s).arb.Sound := by
  simp (maxDischargeDepth := 20) [enterMotion, h, arbiter, Arbiter.Sound.request]

@[simp] theorem releaseGrant_arb (u : UnitId) {s : State} (h : s.arb.Sound) :
    (releaseGrant u s).arb.Sound := by
  simp (maxDischargeDepth := 20) [releaseGrant, h, arbiter, Arbiter.Sound.release]

@[simp] theorem leaveMotion_arb (u : UnitId) {s : State} (h : s.arb.Sound) :
    (leaveMotion u s).arb.Sound := by
  unfold leaveMotion
  split <;> simp (maxDischargeDepth := 20) [h, arbiter, Arbiter.Sound.withdraw]

@[simp] theorem activateUnit_arb (u : UnitId) (g : UnitSettings) {s : State} (h : s.arb.Sound) :
    (activateUnit u g s).arb.Sound := by
  unfold activateUnit
  split <;> simp (maxDischargeDepth := 20) [h]

@[simp] theorem activateUnits_arb (g : Quad UnitSettings) {s : State} (h : s.arb.Sound) :
    (activateUnits g s).arb.Sound := by
  simp (maxDischargeDepth := 20) [activateUnits, h]

@[simp] theorem workUnit_arb (u : UnitId) {s : State} (h : s.arb.Sound) :
    (workUnit u s).arb.Sound := by
  unfold workUnit
  dsimp only
  (repeat' split) <;> simp (maxDischargeDepth := 20) [h]

@[simp] theorem workUnits_arb {s : State} (h : s.arb.Sound) :
    (workUnits s).arb.Sound := by
  simp (maxDischargeDepth := 20) [workUnits, h]

@[simp] theorem stickUnit_arb (u : UnitId) {s : State} (h : s.arb.Sound) :
    (stickUnit u s).arb.Sound := by
  simp (maxDischargeDepth := 20) [stickUnit, h]

@[simp] theorem retreatUnit_arb (p : Bool) (u : UnitId) {s : State} (h : s.arb.Sound) :
    (retreatUnit p u s).arb.Sound := by
  unfold retreatUnit
  dsimp only
  (repeat' split) <;> simp (maxDischargeDepth := 20) [h]

@[simp] theorem retreatUnits_arb (p : Bool) {s : State} (h : s.arb.Sound) :
    (retreatUnits p s).arb.Sound := by
  simp (maxDischargeDepth := 20) [retreatUnits, h]

@[simp] theorem resumeUnit_arb (u : UnitId) {s : State} (h : s.arb.Sound) :
    (resumeUnit u s).arb.Sound := by
  unfold resumeUnit
  dsimp only
  (repeat' split) <;> simp (maxDischargeDepth := 20) [h]

@[simp] theorem resumeUnits_arb {s : State} (h : s.arb.Sound) :
    (resumeUnits s).arb.Sound := by
  simp (maxDischargeDepth := 20) [resumeUnits, h]

@[simp] theorem restartUnit_arb (u : UnitId) {s : State} (h : s.arb.Sound) :
    (restartUnit u s).arb.Sound := by
  unfold restartUnit
  split <;> simp (maxDischargeDepth := 20) [h]

@[simp] theorem restartUnits_arb {s : State} (h : s.arb.Sound) :
    (restartUnits s).arb.Sound := by
  simp (maxDischargeDepth := 20) [restartUnits, h]

@[simp] theorem releaseLluGrant_arb {s : State} (h : s.arb.Sound) :
    (releaseLluGrant s).arb.Sound := by
  simp (maxDischargeDepth := 20) [releaseLluGrant, h, arbiter, Arbiter.Sound.release]

@[simp] theorem leaveLluMotion_arb {s : State} (h : s.arb.Sound) :
    (leaveLluMotion s).arb.Sound := by
  unfold leaveLluMotion
  split <;> simp (maxDischargeDepth := 20) [h, arbiter, Arbiter.Sound.withdraw]

@[simp] theorem lluWork_arb (d : Demands) {s : State} (h : s.arb.Sound) :
    (lluWork d s).arb.Sound := by
  unfold lluWork
  split <;> simp (maxDischargeDepth := 20) [h, arbiter, Arbiter.Sound.request]

@[simp] theorem reachDemand_arb {s : State} (h : s.arb.Sound) :
    (reachDemand s).arb.Sound := by
  simp (maxDischargeDepth := 20) [reachDemand, h]

@[simp] theorem startRelease_arb {s : State} (h : s.arb.Sound) :
    (startRelease s).arb.Sound := by
  simp (maxDischargeDepth := 20) [startRelease, h, arbiter, Arbiter.Sound.request]

@[simp] theorem lluRelease_arb {s : State} (h : s.arb.Sound) :
    (lluRelease s).arb.Sound := by
  unfold lluRelease
  split <;> simp (maxDischargeDepth := 20) [h]

@[simp] theorem lluRetreatOrder_arb (p : Bool) {s : State} (h : s.arb.Sound) :
    (lluRetreatOrder p s).arb.Sound := by
  unfold lluRetreatOrder
  (repeat' split) <;> simp (maxDischargeDepth := 20) [h]

@[simp] theorem lluRetreatRelease_arb {s : State} (h : s.arb.Sound) :
    (lluRetreatRelease s).arb.Sound := by
  unfold lluRetreatRelease
  split <;> simp (maxDischargeDepth := 20) [h]

@[simp] theorem restartLlu_arb {s : State} (h : s.arb.Sound) :
    (restartLlu s).arb.Sound := by
  unfold restartLlu
  dsimp only
  split <;> simp (maxDischargeDepth := 20) [h, arbiter, Arbiter.Sound.request]

@[simp] theorem activate_arb (k : Nat) {s : State} (h : s.arb.Sound) :
    (activate k s).arb.Sound := by
  unfold activate
  dsimp only
  (repeat' split) <;> simp (maxDischargeDepth := 20) [h]

@[simp] theorem beginRelease_arb {s : State} (h : s.arb.Sound) :
    (beginRelease s).arb.Sound := by
  simp (maxDischargeDepth := 20) [beginRelease, h]

@[simp] theorem endOfWork_arb (n : Nat) {s : State} (h : s.arb.Sound) :
    (endOfWork n s).arb.Sound := by
  induction n generalizing s with
  | zero => exact h
  | succ n ih =>
    unfold endOfWork
    (repeat' split) <;> simp (maxDischargeDepth := 20) [h, ih]

@[simp] theorem testEndOfWork_arb {s : State} (h : s.arb.Sound) :
    (testEndOfWork s).arb.Sound := by
  simp (maxDischargeDepth := 20) [testEndOfWork, h]

@[simp] theorem activateSlot_arb (k : Nat) {s : State} (h : s.arb.Sound) :
    (activateSlot k s).arb.Sound := by
  simp (maxDischargeDepth := 20) [activateSlot, h]

@[simp] theorem nextOrStarve_arb {s : State} (h : s.arb.Sound) :
    (nextOrStarve s).arb.Sound := by
  unfold nextOrStarve
  split <;> simp (maxDischargeDepth := 20) [h]

@[simp] theorem pauseOrNext_arb {s : State} (h : s.arb.Sound) :
    (pauseOrNext s).arb.Sound := by
  unfold pauseOrNext
  split <;> simp (maxDischargeDepth := 20) [h]

@[simp] theorem finishTests_arb (b : Bool) (e : Entry) {s : State} (h : s.arb.Sound) :
    (finishTests b e s).arb.Sound := by
  unfold finishTests
  (repeat' split) <;> simp (maxDischargeDepth := 20) [h]

@[simp] theorem endRetreat_arb {s : State} (h : s.arb.Sound) :
    (endRetreat s).arb.Sound := by
  unfold endRetreat
  split <;> simp (maxDischargeDepth := 20) [h, arbiter, Arbiter.Sound.retreatMode]

@[simp] theorem followRetreat_arb {s : State} (h : s.arb.Sound) :
    (followRetreat s).arb.Sound := by
  simp (maxDischargeDepth := 20) [followRetreat, h]

@[simp] theorem commonRetreat_arb (p : Bool) {s : State} (h : s.arb.Sound) :
    (commonRetreat p s).arb.Sound := by
  simp (maxDischargeDepth := 20) [commonRetreat, h, arbiter, Arbiter.Sound.retreatMode]

@[simp] theorem halt_arb (c : FaultCode) (x : FaultSource) {s : State} (h : s.arb.Sound) :
    (halt c x s).arb.Sound := by
  simp (maxDischargeDepth := 20) [halt, h]

@[simp] theorem raiseFault_arb (c : FaultCode) (x : FaultSource) {s : State} (h : s.arb.Sound) :
    (raiseFault c x s).arb.Sound := by
  unfold raiseFault
  split <;> simp (maxDischargeDepth := 20) [h]

@[simp] theorem inPosition_arb {s : State} (h : s.arb.Sound) :
    (inPosition s).arb.Sound := by
  unfold inPosition
  (repeat' split) <;> simp (maxDischargeDepth := 20) [h]

@[simp] theorem unitDone_arb (u : UnitId) {s : State} (h : s.arb.Sound) :
    (unitDone u s).arb.Sound := by
  unfold unitDone
  split <;> simp (maxDischargeDepth := 20) [h]

@[simp] theorem unitSet_arb {s : State} (h : s.arb.Sound) :
    (unitSet s).arb.Sound := by
  unfold unitSet
  split <;> simp (maxDischargeDepth := 20) [h]

@[simp] theorem lluReportsOpen_arb (r : Option (Int × Int)) {s : State} (h : s.arb.Sound) :
    (lluReportsOpen r s).arb.Sound := by
  unfold lluReportsOpen
  (repeat' split) <;> simp (maxDischargeDepth := 20) [h]

@[simp] theorem giveUpHold_arb {s : State} (h : s.arb.Sound) :
    (giveUpHold s).arb.Sound := by
  simp (maxDischargeDepth := 20) [giveUpHold, h]

@[simp] theorem entryLoaded_arb {s : State} (h : s.arb.Sound) :
    (entryLoaded s).arb.Sound := by
  unfold entryLoaded
  (repeat' split) <;> simp (maxDischargeDepth := 20) [h]

@[simp] theorem lluSensorLost_arb {s : State} (h : s.arb.Sound) :
    (lluSensorLost s).arb.Sound := by
  simp (maxDischargeDepth := 20) [lluSensorLost, h]

@[simp] theorem liftSample_arb {s : State} (h : s.arb.Sound) :
    (liftSample s).arb.Sound := by
  unfold liftSample
  split <;> simp (maxDischargeDepth := 20) [h]

@[simp] theorem endMeasurement_arb (r : Correction) (v : Option (Int × Int)) {s : State} (h : s.arb.Sound) :
    (endMeasurement r v s).arb.Sound := by
  simp (maxDischargeDepth := 20) [endMeasurement, h]

@[simp] theorem settleSample_arb {s : State} (h : s.arb.Sound) :
    (settleSample s).arb.Sound := by
  unfold settleSample
  dsimp only
  (repeat' split) <;> simp (maxDischargeDepth := 20) [h]

@[simp] theorem lluSample_arb (b : Channels ChannelRec) {s : State} (h : s.arb.Sound) :
    (lluSample b s).arb.Sound := by
  unfold lluSample
  (repeat' split) <;> simp (maxDischargeDepth := 20) [h]

@[simp] theorem takeSampleStep_arb (x : Channels Reading) {s : State} (h : s.arb.Sound) :
    (takeSampleStep x s).arb.Sound := by
  simp (maxDischargeDepth := 20) [takeSampleStep, h]

@[simp] theorem travelFault_arb (c : FaultCode) {s : State} (h : s.arb.Sound) :
    (travelFault c s).arb.Sound := by
  simp (maxDischargeDepth := 20) [travelFault, h]

@[simp] theorem afterStep_arb (b : Bool) {s : State} (h : s.arb.Sound) :
    (afterStep b s).arb.Sound := by
  unfold afterStep
  (repeat' split) <;> simp (maxDischargeDepth := 20) [h]

@[simp] theorem judgeRest_arb {s : State} (h : s.arb.Sound) :
    (judgeRest s).arb.Sound := by
  unfold judgeRest
  dsimp only
  (repeat' split) <;> simp (maxDischargeDepth := 20) [h]

@[simp] theorem unitEvent_arb {s : State} (h : s.arb.Sound) :
    (unitEvent s).arb.Sound := by
  simp (maxDischargeDepth := 20) [unitEvent, h]

@[simp] theorem takeUnitGrant_arb (u : UnitId) {s : State} (h : s.arb.Sound) :
    (takeUnitGrant u s).arb.Sound := by
  unfold takeUnitGrant
  dsimp only
  (repeat' split) <;> simp (maxDischargeDepth := 20) [h]

@[simp] theorem endMotion_arb (u : UnitId) {s : State} (h : s.arb.Sound) :
    (endMotion u s).arb.Sound := by
  simp (maxDischargeDepth := 20) [endMotion, h]

@[simp] theorem shiftDone_arb (u : UnitId) {s : State} (h : s.arb.Sound) :
    (shiftDone u s).arb.Sound := by
  unfold shiftDone
  split <;> simp (maxDischargeDepth := 20) [h]

@[simp] theorem depthDone_arb (u : UnitId) {s : State} (h : s.arb.Sound) :
    (depthDone u s).arb.Sound := by
  unfold depthDone
  dsimp only
  split <;> simp (maxDischargeDepth := 20) [h]

@[simp] theorem insertionDone_arb (u : UnitId) {s : State} (h : s.arb.Sound) :
    (insertionDone u s).arb.Sound := by
  unfold insertionDone
  split <;> simp (maxDischargeDepth := 20) [h]

@[simp] theorem tinesDone_arb (u : UnitId) {s : State} (h : s.arb.Sound) :
    (tinesDone u s).arb.Sound := by
  unfold tinesDone
  split <;> simp (maxDischargeDepth := 20) [h]

@[simp] theorem parkDone_arb (u : UnitId) {s : State} (h : s.arb.Sound) :
    (parkDone u s).arb.Sound := by
  unfold parkDone
  split <;> simp (maxDischargeDepth := 20) [h]

@[simp] theorem unitStuck_arb (u : UnitId) {s : State} (h : s.arb.Sound) :
    (unitStuck u s).arb.Sound := by
  simp (maxDischargeDepth := 20) [unitStuck, h]

@[simp] theorem retryInsertion_arb (u : UnitId) {s : State} (h : s.arb.Sound) :
    (retryInsertion u s).arb.Sound := by
  simp (maxDischargeDepth := 20) [retryInsertion, h]

@[simp] theorem blockInsertion_arb (u : UnitId) {s : State} (h : s.arb.Sound) :
    (blockInsertion u s).arb.Sound := by
  unfold blockInsertion
  split <;> simp (maxDischargeDepth := 20) [h]

@[simp] theorem insertionExpired_arb (u : UnitId) {s : State} (h : s.arb.Sound) :
    (insertionExpired u s).arb.Sound := by
  unfold insertionExpired
  split <;> simp (maxDischargeDepth := 20) [h]

@[simp] theorem lluEvent_arb {s : State} (h : s.arb.Sound) :
    (lluEvent s).arb.Sound := by
  simp (maxDischargeDepth := 20) [lluEvent, h]

@[simp] theorem takeLluGrant_arb {s : State} (h : s.arb.Sound) :
    (takeLluGrant s).arb.Sound := by
  unfold takeLluGrant
  (repeat' split) <;> simp (maxDischargeDepth := 20) [h]

@[simp] theorem clampDone_arb {s : State} (h : s.arb.Sound) :
    (clampDone s).arb.Sound := by
  unfold clampDone
  dsimp only
  split <;> simp (maxDischargeDepth := 20) [h]

@[simp] theorem unclampDone_arb {s : State} (h : s.arb.Sound) :
    (unclampDone s).arb.Sound := by
  unfold unclampDone
  split <;> simp (maxDischargeDepth := 20) [h]

@[simp] theorem clampFailed_arb {s : State} (h : s.arb.Sound) :
    (clampFailed s).arb.Sound := by
  simp (maxDischargeDepth := 20) [clampFailed, h]

end Sys2Proof.Machine
end

