-- ==== Sys2Proof/Laws/Decide.lean ====
section
/-! SUPPORT. How the conditions of the statements are decided on a concrete state: for a value over units or channels, and for the
sound states. The tests use these to show that the statements' conditions can be met. -/

namespace Sys2Proof.Machine

/-! ## Units, channels and optional values -/

@[reducible] def decideUnits (p : UnitId → Prop) [∀ u, Decidable (p u)] : Decidable (∀ u, p u) :=
  decidable_of_iff (p .lo ∧ p .li ∧ p .ri ∧ p .ro)
    ⟨fun h u => by cases u <;> simp_all, fun h => ⟨h _, h _, h _, h _⟩⟩

theorem forall_unit {p : UnitId → Prop} (h : p .lo ∧ p .li ∧ p .ri ∧ p .ro) : ∀ u, p u := by
  intro u; cases u <;> simp_all

/-! ## The workhead -/

@[reducible] def TUnit.decideShaped (x : TUnit) : Decidable x.Shaped := by
  unfold TUnit.Shaped; cases x.waiting <;> rcases x.order with _ | ⟨o, n⟩ <;> infer_instance

@[reducible] def Llu.decideShaped (x : Llu) : Decidable x.Shaped := by
  unfold Llu.Shaped; cases x.waiting <;> rcases x.order with _ | ⟨o, n⟩ <;> infer_instance

@[reducible] def decideWorkhead (s : State) : Decidable (WorkheadSound s) := by
  have := @decideUnits; have := TUnit.decideShaped; have := Llu.decideShaped
  unfold WorkheadSound UnitsAtRest IdleHeld; infer_instance

theorem TUnit.shaped_of_test {x : TUnit} (h : @decide _ x.decideShaped = true) : x.Shaped := @of_decide_eq_true _ x.decideShaped h

theorem Llu.shaped_of_test {x : Llu} (h : @decide _ x.decideShaped = true) : x.Shaped := @of_decide_eq_true _ x.decideShaped h

theorem workhead_of_test {s : State} (h : @decide _ (decideWorkhead s) = true) : WorkheadSound s :=
  @of_decide_eq_true _ (decideWorkhead s) h

/-! ## The queue -/

/-- `OnlyWorking` as a test. -/
def WorkQueue.onlyWorkingTest (q : WorkQueue) (k : Nat) (x : Slot) : Bool :=
  q.slots[k]? == some x && x.state.working &&
  (List.range q.slots.length).all fun j => j == k || (q.slots[j]?.all fun y => !y.state.working)

theorem onlyWorking_of_test {q : WorkQueue} {k : Nat} {x : Slot} (h : q.onlyWorkingTest k x = true) : OnlyWorking q k x := by
  simp only [WorkQueue.onlyWorkingTest, Bool.and_eq_true, beq_iff_eq, List.all_eq_true, List.mem_range, Bool.or_eq_true] at h
  obtain ⟨⟨h1, h2⟩, h3⟩ := h
  refine ⟨h1, ?_, ?_⟩
  · revert h2; cases x.state <;> simp [SlotState.working]
  · intro j y hj hy
    have hl : j < q.slots.length := (List.getElem?_eq_some_iff.mp hy).1
    rcases h3 j hl with e | e
    · exact absurd e hj
    · rw [hy] at e
      revert e; simp only [Option.all_some]; cases y.state <;> simp [SlotState.working]

/-- `OldestReady` as a test. -/
def WorkQueue.oldestReadyTest (q : WorkQueue) (k : Nat) (x : Slot) : Bool :=
  q.slots[k]? == some x && x.state == .ready && (List.range k).all fun j => q.slots[j]?.all fun y => y.state != .ready

theorem oldestReady_of_test {q : WorkQueue} {k : Nat} {x : Slot} (h : q.oldestReadyTest k x = true) : OldestReady q k x := by
  simp only [WorkQueue.oldestReadyTest, Bool.and_eq_true, beq_iff_eq, List.all_eq_true, List.mem_range] at h
  obtain ⟨⟨h1, h2⟩, h3⟩ := h
  refine ⟨h1, h2, fun j y hj hy => ?_⟩
  have := h3 j hj
  rw [hy] at this
  simpa using this

/-- Every two neighbours of a list of slots are in order. -/
def neighboursTest : List Slot → Bool
  | x :: y :: rest =>
    (if x.entry.joinedNext then y.entry.number == x.entry.number && y.chainPos == x.chainPos + 1
      else decide (x.entry.number < y.entry.number) && y.chainPos == 1) && neighboursTest (y :: rest)
  | _ => true

theorem neighbours_of_test : ∀ {l : List Slot}, neighboursTest l = true →
    ∀ i x y, l[i]? = some x → l[i + 1]? = some y → x.precedes y
  | [], _, i, x, y, hx, _ => by simp at hx
  | [a], _, i, x, y, hx, hy => by simp at hy
  | a :: b :: rest, h, i, x, y, hx, hy => by
    simp only [neighboursTest, Bool.and_eq_true] at h
    cases i with
    | zero =>
      simp only [List.getElem?_cons_zero, Option.some.injEq, List.getElem?_cons_succ] at hx hy
      subst hx; subst hy
      have h1 := h.1
      unfold Slot.precedes
      split at h1 <;> rename_i hj <;> simp only [hj, if_true, if_false, Bool.false_eq_true]
      · simpa using h1
      · simpa using h1
    | succ i => exact neighbours_of_test h.2 i x y (by simpa using hx) (by simpa using hy)

/-- `QueueSound` as a test. -/
def State.queueTest (s : State) : Bool :=
  decide (s.queue.oldest < 64 ∧ s.queue.slots.length ≤ 64 ∧
    (∀ x ∈ s.queue.slots, x.state ≠ .free ∧ 1 ≤ x.chainPos ∧ x.chainPos ≤ 3 ∧ (x.entry.joinedNext = true → x.chainPos ≤ 2) ∧
      ¬ (x.entry.joinedNext = true ∧ x.entry.isEnd = true) ∧ 1 ≤ x.entry.number ∧ x.entry.distance ≤ 2500 ∧ x.retries ≤ 3)) &&
  neighboursTest s.queue.slots &&
  decide (s.queue.slots.Pairwise (fun x y => x.state.rank ≤ y.state.rank ∧ ¬ (x.state.rank = 1 ∧ y.state.rank = 1))) &&
  decide ((s.job.state = .idle → ∀ x ∈ s.queue.slots, x.state ≠ .active ∧ x.state ≠ .faulted) ∧
    (s.job.state = .halted → ∀ x ∈ s.queue.slots, x.state ≠ .active) ∧
    (s.job.state = .running ∨ s.job.state = .paused →
      (∀ x ∈ s.queue.slots, x.state ≠ .faulted) ∧
      (s.job.phase = some .starved → ∀ x ∈ s.queue.slots, x.state ≠ .active ∧ x.state ≠ .faulted)) ∧
    (s.job.state = .paused → s.job.phase = none → ∀ x ∈ s.queue.slots, x.state ≠ .active ∧ x.state ≠ .faulted))

theorem queueSound_of_test {s : State} (h : s.queueTest = true) : QueueSound s := by
  simp only [State.queueTest, Bool.and_eq_true, decide_eq_true_eq] at h
  obtain ⟨⟨⟨⟨h1, h2, h3⟩, h4⟩, h5⟩, h6⟩ := h
  exact ⟨⟨h1, h2, h3, neighbours_of_test h4, h5⟩, h6⟩

end Sys2Proof.Machine
end

