-- ==== Sys2Proof/Laws/Drive.lean ====
section
/-! SUPPORT. What the operations that issue the drive order do, in the terms of R104, R105 and R115, what the follow-up of a
retreat does, in the terms of R38 and R159, and what the forming of the achieved values does, in the terms of R148. -/

namespace Sys2Proof.Machine

/-- The drive order becomes the one due, and is sent when it changes. -/
theorem issueDrive_eq (s : State) :
    issueDrive s = { s with
      travel := { s.travel with drive := s.driveDue }
      field := { s.field with
        sent := s.field.sent ++ (if s.travel.drive = s.driveDue then [] else [.drive s.driveDue]) } } := by
  unfold issueDrive
  split
  · rename_i h; rw [← h]; simp
  · rfl

/-- The drive due looks at the wanted order and the permission alone, so that issuing it does not change it. -/
@[simp] theorem issueDrive_driveDue (s : State) : (issueDrive s).driveDue = s.driveDue := by
  rw [issueDrive_eq]; rfl

/-- After it has been issued the drive order is the one due. -/
theorem issueDrive_sound (s : State) : DriveSound (issueDrive s) := by
  unfold DriveSound
  rw [issueDrive_driveDue, issueDrive_eq]

/-- In IDLE the drive due is STOP, whatever the permission. -/
theorem driveDue_idle {s : State} (h : s.travel.state = .idle) : s.driveDue = .stop := by
  unfold State.driveDue
  rw [h]
  exact ite_self _

/-- The Positioner made IDLE, with the order STOP sent at once if it is a change. -/
theorem positionerIdle_eq (s : State) : positionerIdle s = s.idled := by
  unfold positionerIdle
  rw [issueDrive_eq, driveDue_idle rfl]
  rfl

/-- A command that ends with `conclude` leaves the drive and the line as `Issued` says of the state before it. -/
theorem conclude_issued (s : State) : Issued s (conclude s) [] := by
  have h : (conclude s).driveDue = s.driveDue := by
    unfold conclude startSending
    exact (issueDrive_driveDue s)
  unfold Issued Driven
  rw [h]
  unfold conclude startSending
  rw [issueDrive_eq]
  exact ⟨⟨rfl, by simp [State.setLink]⟩, rfl⟩

/-! ## The follow-up of a retreat -/

theorem Quad.all_iff {α : Type} (q : Quad α) (f : α → Bool) : q.all f = true ↔ ∀ u, f (q.get u) = true := by
  simp only [Quad.all, Bool.and_eq_true]
  exact ⟨fun h u => by cases u <;> simp_all [Quad.get], fun h => ⟨⟨⟨h .lo, h .li⟩, h .ri⟩, h .ro⟩⟩

theorem Quad.any_iff {α : Type} (q : Quad α) (f : α → Bool) : q.any f = true ↔ ∃ u, f (q.get u) = true := by
  simp only [Quad.any, Bool.or_eq_true]
  refine ⟨fun h => ?_, fun ⟨u, h⟩ => by cases u <;> simp_all [Quad.get]⟩
  rcases h with ((h | h) | h) | h
  exacts [⟨.lo, h⟩, ⟨.li, h⟩, ⟨.ri, h⟩, ⟨.ro, h⟩]

theorem allParked_iff (s : State) : s.allParked = true ↔ ∀ u, (s.unit u).state = .parked := by
  simp [State.allParked, Quad.all_iff, State.unit]

/-- The test of the model for the end of a retreat is that of R38. -/
theorem retreatOver_iff (s : State) : (s.retreatComplete || s.retreatStalled) = true ↔ RetreatOver s := by
  unfold RetreatOver State.retreatComplete State.retreatStalled
  rw [Bool.or_eq_true, Bool.and_eq_true, Bool.and_eq_true, Bool.and_eq_true, allParked_iff, Bool.or_eq_true, Quad.any_iff,
    Bool.not_eq_true', ← Bool.not_eq_true, Quad.any_iff, and_assoc]
  simp [State.unit]

/-- The follow-up: an LLU that waits releases if it may, and the retreat mode ends when the retreat is over. -/
theorem followRetreat_followed (s : State) : RetreatFollowed s.llu s.arb (followRetreat s) := by
  have hw : (s.llu.retreat && s.llu.state.waitsClamped && s.allParked && !s.field.stopLine) = true ↔
      s.llu.WaitsToRelease ∧ (∀ u, (s.unit u).state = .parked) ∧ s.field.stopLine = false := by
    simp only [Bool.and_eq_true, allParked_iff, Bool.not_eq_true', Llu.WaitsToRelease, and_assoc]
    cases s.llu.state <;> simp [LluState.waitsClamped]
  have he : ∀ t : State, endRetreat t = { t with
      arb := { t.arb with retreatMode := t.arb.retreatMode && !(t.retreatComplete || t.retreatStalled) } } := by
    intro t
    unfold endRetreat
    cases hm : t.arb.retreatMode <;> cases ho : (t.retreatComplete || t.retreatStalled) <;>
      simp [arbiter, State.setArb] <;> (rw [← hm])
  have hov : ∀ t : State, ∀ a : Arbiter, RetreatOver { t with arb := a } ↔ RetreatOver t := fun _ _ => Iff.rfl
  have hr : ∀ t : State, (endRetreat t).arb.retreatMode = true ↔ t.arb.retreatMode = true ∧ ¬ RetreatOver (endRetreat t) := by
    intro t
    rw [he, hov, ← retreatOver_iff]
    simp
  unfold RetreatFollowed ReleasedAfter followRetreat
  refine ⟨?_, ?_, ?_⟩
  · rw [he]
    unfold lluRetreatRelease
    split
    · rename_i h
      have h' := hw.1 h
      exact ⟨fun _ => rfl, fun hn => absurd h' hn⟩
    · rename_i h
      exact ⟨fun h' => absurd (hw.2 h') h, fun _ => rfl⟩
  · rw [hr]
    have : (lluRetreatRelease s).arb.retreatMode = s.arb.retreatMode := by
      unfold lluRetreatRelease
      split
      · exact (Arbiter.request_keeps .llu s.arb).1
      · rfl
    rw [this]
  · rw [he]
    unfold lluRetreatRelease
    split
    · rename_i h
      have h' := (hw.1 h).1
      have hne : ({ s.llu with state := .releasing, waiting := true, joinHold := none } : Llu) ≠ s.llu := by
        intro e
        exact h'.2.2.1 (by rw [← e])
      simp [startRelease, arbiter, changeLlu, State.setArb, State.setLlu, hne]
    · simp

/-! ## The achieved values of a sample -/

/-- Forming the achieved values does at the LLU what R148 gives, and nothing else. -/
theorem formAchieved_formed {s0 s : State} (h : s.llu = s0.llu) (hp : s.params = s0.params) :
    AchievedFormed s0 s.meas.channels (formAchieved s).llu := by
  have hb : s.baselineLost = true ↔
      ((∃ ch ∈ [Channel.line, levelChannel s0.params.grade, .cant], (s.meas.channels.get ch).state = .lost) ∨
        (s0.llu.hookEngaged = true ∧ s.meas.channels.hook.state = .lost)) := by
    unfold State.baselineLost liftChannels
    rw [h, hp]
    cases hk : s0.llu.hookEngaged <;> simp [ChannelRec.isLost, Channels.get, or_assoc]
  unfold AchievedFormed
  rw [formAchieved_llu]
  refine ⟨?_, ?_⟩
  · intro b hbl hn
    have : s.baselineLost = false := by
      cases hh : s.baselineLost
      · rfl
      · exact absurd (hb.1 hh) hn
    refine ⟨achievedOf b s.meas.channels s.params.grade s.llu.hookEngaged, _, _, ?_, rfl, rfl, ?_⟩
    · simp [State.achievedNow, this, h, hbl]
    · rw [h, hp]
      cases s0.params.grade <;> cases hk : s0.llu.hookEngaged <;> simp_all [achievedOf]
  · intro hx
    rcases hx with hx | hx
    · have : s.achievedNow = none := by simp [State.achievedNow, h, hx]
      rw [this, h]; rfl
    · have : s.baselineLost = true := hb.2 hx
      simp [State.achievedNow, h, this]

end Sys2Proof.Machine
end

