-- ==== Sys2Proof/Laws/Queue.lean ====
section
/-! SUPPORT. What the operations of the Work Queue do, in the terms of R8 to R12 and R19. -/

namespace Sys2Proof.Machine

/-! ## Loading -/

theorem WorkQueue.refNumber_eq (q : WorkQueue) : q.refNumber = q.reference.1 := by
  unfold WorkQueue.refNumber WorkQueue.newest WorkQueue.reference
  cases q.slots.getLast? <;> rfl

theorem WorkQueue.refJoined_eq (q : WorkQueue) : q.refJoined = q.reference.2.1 := by
  unfold WorkQueue.refJoined WorkQueue.newest WorkQueue.reference
  cases q.slots.getLast? <;> rfl

theorem WorkQueue.nextChainPos_eq (q : WorkQueue) : q.nextChainPos = q.newChainPos := by
  unfold WorkQueue.nextChainPos WorkQueue.refJoined WorkQueue.newest WorkQueue.newChainPos WorkQueue.reference
  cases q.slots.getLast? <;> simp

theorem WorkQueue.numberFits_iff (q : WorkQueue) (e : Entry) : q.numberFits e.number = true ↔ NumberInOrder q e := by
  unfold WorkQueue.numberFits NumberInOrder
  rw [q.refNumber_eq, q.refJoined_eq]
  split <;> simp

theorem WorkQueue.joinMismatch_some (q : WorkQueue) (e : Entry) (d : Nat) :
    q.joinMismatch e = some d ↔ FirstChainFault q e d := by
  unfold WorkQueue.joinMismatch FirstChainFault
  rw [q.refJoined_eq, q.nextChainPos_eq]
  unfold WorkQueue.newChainPos
  by_cases hd : e.distance = 0 <;> cases q.reference.2.1 <;> cases e.joinedNext <;> cases e.isEnd <;> simp [hd] <;>
    first | exact eq_comm | skip
  by_cases h2 : q.reference.2.2 = 2 <;> simp [h2]
  exact eq_comm

theorem WorkQueue.joinMismatch_none (q : WorkQueue) (e : Entry) : q.joinMismatch e = none ↔ ChainInOrder q e := by
  unfold WorkQueue.joinMismatch ChainInOrder
  rw [q.refJoined_eq, q.nextChainPos_eq]
  unfold WorkQueue.newChainPos
  by_cases hd : e.distance = 0 <;> cases q.reference.2.1 <;> cases e.joinedNext <;> cases e.isEnd <;> simp [hd]

/-- The tests of R8 all pass. -/
theorem WorkQueue.loadRefusal_none {q : WorkQueue} {e : Entry} :
    q.loadRefusal e = none ↔ q.slots.length < 64 ∧ NumberInOrder q e ∧ ChainInOrder q e ∧ e.distance ≤ 2500 := by
  rw [← q.numberFits_iff, ← q.joinMismatch_none]
  unfold WorkQueue.loadRefusal queueSlots
  by_cases h1 : 64 ≤ q.slots.length
  · simp [h1]
  · cases h2 : q.numberFits e.number
    · simp [h1]
    · cases h3 : q.joinMismatch e <;> simp [h1]
      omega

theorem clamp_eq {lo hi : Int} (h : lo ≤ hi) (x : Int) : clamp lo hi x = max lo (min x hi) := by
  unfold clamp
  split_ifs <;> omega

theorem listed_eq (code : Nat) (lo hi x : Int) :
    listed code lo hi x = if decide (x < lo) || decide (hi < x) then [code] else [] := by
  unfold listed
  by_cases h1 : x < lo <;> by_cases h2 : hi < x <;> simp [h1, h2]

/-- The codes of a load are those of the setpoints outside their ranges. -/
theorem clampedCodes_eq (e : Entry) : clampedCodes e = (e.setpoints.filter (·.outside)).map (·.code) := by
  have cons : ∀ (x : Setpoint) l, ((x :: l).filter (·.outside)).map (·.code)
      = listed x.code x.low x.high x.value ++ (l.filter (·.outside)).map (·.code) := by
    intro x l
    rw [listed_eq]
    show _ = (if x.outside = true then [x.code] else []) ++ _
    cases h : x.outside <;> simp [h]
  unfold clampedCodes Entry.setpoints settingsListed UnitSettings.setpoints
  cases e.branch <;>
    simp only [List.filter_append, List.map_append, cons, List.filter_nil, List.map_nil, List.append_nil,
      Option.map_none, Option.map_some, Option.toList, List.append_assoc]

/-- An accepted load stores the entry with its setpoints at the nearer bounds. -/
theorem clampEntry_stored (e : Entry) : StoredAs e (clampEntry e) := by
  refine ⟨rfl, rfl, rfl, rfl, rfl, rfl, fun u => by cases u <;> rfl, ?_⟩
  unfold clampEntry Entry.setpoints UnitSettings.setpoints
  cases e.branch <;>
    simp [Quad.map, clampSettings, Setpoint.nearest, clamp_eq]

/-! ## Collecting -/

theorem takesFront_iff (held : Bool) (l : List Slot) : takesFront held l = true ↔ ¬ CollectionStops held l := by
  cases l with
  | nil => simp [takesFront, CollectionStops]
  | cons x rest => cases held <;> cases hj : x.entry.joinedNext <;> simp [takesFront, CollectionStops, hj, and_assoc]

/-- What a collection of at most `n` slots takes and leaves. -/
theorem collectFront_spec (held : Bool) : ∀ n l,
    l = (collectFront held n l).1 ++ (collectFront held n l).2 ∧ (collectFront held n l).1.length ≤ n ∧
    CollectionTakes held (collectFront held n l).1 (collectFront held n l).2 ∧
    ((collectFront held n l).1.length = n ∨ CollectionStops held (collectFront held n l).2) := by
  intro n
  induction n with
  | zero => intro l; simp [collectFront, CollectionTakes]
  | succ n ih =>
    intro l
    cases l with
    | nil => simp [collectFront, CollectionTakes, CollectionStops]
    | cons x rest =>
      unfold collectFront
      by_cases hx : takesFront held (x :: rest)
      · simp [hx]
        obtain ⟨i1, i2, i3, i4⟩ := ih rest
        refine ⟨i1, i2, ⟨?_, i3⟩, i4⟩
        rw [← i1]
        exact (takesFront_iff _ _).1 hx
      · simp only [hx, if_false, Bool.false_eq_true, List.nil_append, List.length_nil, Nat.zero_le, CollectionTakes, true_and]
        exact .inr (by by_contra hc; exact hx ((takesFront_iff _ _).2 hc))

/-! ## The active slot -/

/-- No slot is ACTIVE or FAULTED. -/
theorem WorkQueue.activePos_none {q : WorkQueue} :
    q.activePos = none ↔ ∀ x ∈ q.slots, x.state ≠ .active ∧ x.state ≠ .faulted := by
  simp only [WorkQueue.activePos, List.findIdx?_eq_none_iff]
  refine forall_congr' fun x => forall_congr' fun _ => ?_
  cases x.state <;> simp [SlotState.working]

/-- A load that Job Control does not act on. -/
theorem entryLoaded_waits {s : State} {q : WorkQueue} {e : Entry} {p : Nat} (h : ¬ LoadActivates s)
    (hq : q.slots = s.queue.slots ++ [readySlot e p]) : entryLoaded (s.setQueue q) = s.setQueue q := by
  unfold entryLoaded
  rw [if_neg]
  rintro ⟨h1, h2⟩
  refine h ⟨h1, h2.imp id fun h2 => ⟨h2.1, ?_⟩⟩
  have h3 := WorkQueue.activePos_none.1 (Option.isNone_iff_eq_none.1 h2.2)
  intro x hx
  exact h3 x (by simp [hq, hx])

end Sys2Proof.Machine
end

