-- ==== Sys2Proof/Laws/Take.lean ====
section
/-! SUPPORT. What the take of a request can do. -/

namespace Sys2Proof.Machine

/-- Answering changes the link alone. -/
@[simp] theorem answer_keeps (f : Frame) (a : Answer) (s : State) :
    (answer f a s).queue = s.queue ∧ (answer f a s).job = s.job ∧ (answer f a s).params = s.params ∧
    (answer f a s).engine = s.engine ∧ (answer f a s).table = s.table ∧ (answer f a s).meas = s.meas ∧
    (answer f a s).trail = s.trail ∧ (answer f a s).travel = s.travel ∧ (answer f a s).units = s.units ∧
    (answer f a s).llu = s.llu ∧ (answer f a s).arb = s.arb ∧ (answer f a s).test = s.test ∧
    (answer f a s).field = s.field ∧ (answer f a s).pending = s.pending := by
  simp [answer]

/-- What holds of a state after a take: a property that the link does not bear on holds, if the owner keeps it. -/
theorem takeRequest_holds {P : State → Prop} {f : Frame} {fits reading : Bool} {owner : State → State × Answer} {s : State}
    (hl : ∀ t l, P t → P (t.setLink l)) (h : P s)
    (ho : (s.test.running = true → reading = true) → ∀ l, P (s.setLink l) → P (owner (s.setLink l)).1) :
    P (takeRequest f fits reading owner s) := by
  unfold takeRequest
  split
  · dsimp only
    split
    · exact hl _ _ (hl _ _ (hl _ _ h))
    · rename_i hg
      refine hl _ _ (hl _ _ (ho ?_ _ (hl _ _ h)))
      intro hr
      unfold generalRefusal at hg
      split at hg
      · cases hg
      · split at hg
        · cases hg
        · rename_i hx
          simp only [Bool.and_eq_true, Bool.not_eq_true', not_and, Bool.not_eq_false] at hx
          simpa using hx (by simpa using hr)
  · exact h

/-- A frame may be taken exactly when R179 lets it. -/
theorem mayTake_iff {s : State} {f : Frame} : s.link.mayTake f = true ↔ Takeable s f := by
  simp [Link.mayTake, Link.owesReply, Takeable, and_assoc]

/-- The take of a frame that may be taken. -/
theorem mayTake_of_takeable {s : State} {f : Frame} (h : Takeable s f) : s.link.mayTake f = true := mayTake_iff.mpr h

/-- A frame that may not be taken waits. -/
theorem takeRequest_waits {f : Frame} {fits reading : Bool} {owner : State → State × Answer} {s : State}
    (h : ¬ Takeable s f) : takeRequest f fits reading owner s = s := by
  simp [takeRequest, mayTake_iff, h]

/-- A body that does not fit is refused BAD_LENGTH. -/
theorem takeRequest_badLength {f : Frame} {reading : Bool} {owner : State → State × Answer} {s : State}
    (h : Takeable s f) :
    takeRequest f false reading owner s = answer f (refuse f.kind .badLength (bodyLength f.body)) (s.setLink s.link.taken) := by
  simp [takeRequest, mayTake_of_takeable h, generalRefusal]

/-- A request that changes something is refused while a test runs. -/
theorem takeRequest_testRunning {f : Frame} {owner : State → State × Answer} {s : State}
    (h : Takeable s f) (ht : s.test.running = true) :
    takeRequest f true false owner s = answer f (refuse f.kind .testRunning s.test.detail) (s.setLink s.link.taken) := by
  simp [takeRequest, mayTake_of_takeable h, generalRefusal, ht]

/-- A request that passes the general tests reaches its owner. -/
theorem takeRequest_owner {f : Frame} {reading : Bool} {owner : State → State × Answer} {s : State}
    (h : Takeable s f) (ht : s.test.running = true → reading = true) :
    takeRequest f true reading owner s =
      answer f (owner (s.setLink s.link.taken)).2 (owner (s.setLink s.link.taken)).1 := by
  have hg : generalRefusal f true reading (s.setLink s.link.taken) = none := by
    cases hr : s.test.running
    · simp [generalRefusal, hr]
    · simp [generalRefusal, ht hr]
  simp [takeRequest, mayTake_of_takeable h, hg]

/-- Placing a report and forming a reply touch different parts of the link. -/
theorem Link.place_reply (l : Link) (f : Frame) (a : Answer) (r : Report) :
    (l.reply f a).place r = (l.place r).reply f a := by
  unfold Link.place Link.reply
  split <;> rfl

theorem Link.foldl_place_reply (f : Frame) (a : Answer) (rs : List Report) (l : Link) :
    rs.foldl Link.place (l.reply f a) = (rs.foldl Link.place l).reply f a := by
  induction rs generalizing l with
  | nil => rfl
  | cons r rs ih => simp [Link.place_reply, ih]

/-- The link after an answer, when the owner has placed the reports `rs` and nothing else. -/
theorem answer_answered {f : Frame} {a : Answer} {rs : List Report} {s o : State}
    (h : o.link = rs.foldl Link.place s.link.taken) : Answered s (answer f a o) f a rs := by
  have := Link.foldl_place_reply f a rs s.link.taken
  simp only [Answered, answer, startSending, State.setLink, h, ← this]
  rfl

end Sys2Proof.Machine
end

