-- ==== Sys2Proof/WellFormed.lean ====
section
/-! DEFINITION. Which commands can come to the TL-440 at all: the lengths and ranges that the Machine Link and the Field Side
keep. A meaning does not rest on them. -/

namespace Sys2Proof

/-- The bytes of a request body after kind and tag: a frame body holds 4 to 240 bytes (R174). -/
def bodyFits (body : List Byte) : Bool := decide (body.length ≤ 236)

/-- An order number (R118, R142). -/
def numberFits (n : Nat) : Bool := decide (n ≤ 255)

/-- The command lies within what its rule allows: a body fits a frame (R174), an unknown kind is none of the 23 (R180), an
odometer step is −100 to +100 mm (R100), an order number 0 to 255 (R118, R142), a read-back 0 to 1,000 per mille (R189), and a
mismatch has two different words (R190). -/
def Instr.wf : Instr → Bool
  | .powerOn _ _ _ => true
  | .identify _ body => bodyFits body
  | .readStatus _ body => bodyFits body
  | .setParameters _ body => bodyFits body
  | .readParameters _ body => bodyFits body
  | .loadEntry _ body => bodyFits body
  | .collectResults _ body => bodyFits body
  | .readQueue _ body => bodyFits body
  | .clearQueue _ body => bodyFits body
  | .startJob _ body => bodyFits body
  | .pauseJob _ body => bodyFits body
  | .resumeJob _ body => bodyFits body
  | .retryEntry _ body => bodyFits body
  | .skipEntry _ body => bodyFits body
  | .abortJob _ body => bodyFits body
  | .parkAll _ body => bodyFits body
  | .openTable _ body => bodyFits body
  | .tableSegment _ body => bodyFits body
  | .closeTable _ body => bodyFits body
  | .readTable _ body => bodyFits body
  | .readMeasurement _ body => bodyFits body
  | .readTrail _ body => bodyFits body
  | .selfTest _ body => bodyFits body
  | .restart _ body => bodyFits body
  | .unknownKindRequest kind _ body => (decide (kind.toNat = 0) || decide (23 < kind.toNat)) && bodyFits body
  | .frameReceived _ => true
  | .interByteTimeout => true
  | .frameSent => true
  | .restartEffect => true
  | .sampleArrival _ => true
  | .sampleTimerExpiry => true
  | .odometerStep mm => decide (-100 ≤ mm) && decide (mm ≤ 100)
  | .positionSettleExpiry => true
  | .stopLineAssertion => true
  | .stopLineRelease => true
  | .unitGrant _ => true
  | .lluGrant => true
  | .shiftReached _ n => numberFits n
  | .depthReached _ n => numberFits n
  | .tinesOpen _ n => numberFits n
  | .atMid _ n => numberFits n
  | .atPark _ n => numberFits n
  | .shiftTimeout _ => true
  | .insertionTimerExpiry _ => true
  | .squeezeTimerExpiry _ => true
  | .openTimeout _ => true
  | .raiseMidTimeout _ => true
  | .raiseParkTimeout _ => true
  | .clamped n => numberFits n
  | .forceLimit n => numberFits n
  | .unclamped n => numberFits n
  | .clampTimeout => true
  | .liftTimerExpiry => true
  | .unclampTimeout => true
  | .joinHoldExpiry => true
  | .lluSettleExpiry => true
  | .valveReadback _ position => decide (position ≤ 1000)
  | .selfTestItemExpiry => true
  | .memoryMismatch wordRead wordWritten => wordRead != wordWritten
  | .byteReceived _ => true

end Sys2Proof
end

