-- ==== Sys2Proof/Tests/Slice0.lean ====
section
/-! SUPPORT. The tests: ill-formed commands, the manual's worked examples command by command, and a witness that the conditions of
each statement can be met. Expected values are the manual's own; each test names its place there. -/

namespace Sys2Proof.Machine.Tests

open Sys2Proof

set_option Elab.async false

/-- The state with `f` as the one frame of the input buffer. -/
def asked (f : Frame) (s : State) : State := { s with link := { s.link with input := [f] } }

/-- The state after one command; a request finds its frame in the input buffer. -/
def after (c : Instr) (s : State) : State :=
  match exec c ((requestFrame c).elim s fun f => asked f s) with
  | .next t => t
  | .fault _ | .refused _ => s

/-- The body of LOAD ENTRY for an entry, with every optional field present. -/
def bodyOf (e : Entry) : List Byte := encodeEntry true true true true e

/-! ## Ill-formed commands -/

theorem test_wf_body_too_long : (Instr.identify 0 (List.replicate 237 0)).wf = false := by decide +kernel
theorem test_wf_body_longest : (Instr.identify 0 (List.replicate 236 0)).wf = true := by decide +kernel
theorem test_wf_known_kind : (Instr.unknownKindRequest 0x17 0 []).wf = false := by decide
theorem test_wf_odometer_range : (Instr.odometerStep 101).wf = false ∧ (Instr.odometerStep (-101)).wf = false := by decide
theorem test_wf_order_number : (Instr.shiftReached .lo 256).wf = false ∧ (Instr.clamped 256).wf = false := by decide
theorem test_wf_readback_range : (Instr.valveReadback .lluLift 1001).wf = false := by decide
theorem test_wf_mismatch_equal_words : (Instr.memoryMismatch 5 5).wf = false := by decide

/-! ## Settings, entries and states used below -/

/-- RI's settings in section 7.11. -/
def set1 : UnitSettings := ⟨15, 120, 560, 120, 2⟩

/-- Settings of an unused unit. -/
def set0 : UnitSettings := ⟨0, 0, 400, 60, 1⟩

/-- The entry of section 3.6, as sleeper 1 at distance 640. -/
def entry1 : Entry :=
  ⟨1, 640, false, false, false, .left, 20, ⟨set1, set1, set1, set1⟩, -40, 250, 5263, 950, none⟩

def slotOf (st : SlotState) (e : Entry) : Slot := ⟨st, e, 1, 0, none, none, none⟩

/-- The state after power-on with these slots, in LOCAL mode, with this job state and phase. -/
def jobAt (slots : List Slot) (js : JobState) (ph : Option Phase) : State :=
  { State.reset with
    queue := ⟨0, slots⟩, job := { Job.atPowerOn with state := js, phase := ph }
    params := { Params.default with mode := .localMode } }

def withUnit (u : UnitId) (x : TUnit) (s : State) : State := { s with units := s.units.set u x }

def withLlu (x : Llu) (s : State) : State := { s with llu := x }

/-- A unit at work for `entry1`, in a state without an order. -/
def unitIn (st : UnitState) : TUnit :=
  { TUnit.atPowerOn true with state := st, settings := some set1, result := ⟨true, 0, 0, false, false, false⟩ }

/-- A unit at work for `entry1`, with an order. -/
def unitOn (st : UnitState) (o : UnitOrder) (n : Nat) : TUnit :=
  { unitIn st with
    order := some (o, n), orderNo := n, timer := some 1000, tinesClosed := st == .squeezing || st == .opening }

/-- The LLU in a state without an order. -/
def lluIn (st : LluState) : Llu := { Llu.atPowerOn true with state := st, clampsClosed := st != .isOpen && st != .settling }

/-- The LLU with an order. -/
def lluOn (st : LluState) (o : LluOrder) (n : Nat) : Llu :=
  { lluIn st with order := some (o, n), orderNo := n, timer := some 1000 }

/-- The three channels of a computation, VALID with these values. -/
def channelsAt (line left cant : Int) : Channels ChannelRec :=
  { Measurement.initial.channels with line := ⟨.valid, 0, some line⟩, levelL := ⟨.valid, 0, some left⟩, cant := ⟨.valid, 0, some cant⟩ }

def withChannels (cs : Channels ChannelRec) (s : State) : State := { s with meas := ⟨cs, some 20⟩ }

/-- A sample of three good values, the others bad. -/
def sampleOf (line left cant : Int) : Channels Reading :=
  { missedSample with line := ⟨line, true⟩, levelL := ⟨left, true⟩, cant := ⟨cant, true⟩ }

/-! ## The Machine Link (R175, R176) -/

theorem test_frame_of_read_status :
    frameOf [0x02, 0x00, 0x07, 0x01] = [0xC3, 0x04, 0x00, 0x02, 0x00, 0x07, 0x01, 0xF6, 0xFE] := by decide
theorem test_frame_of_odd_body :
    frameOf [0x13, 0x00, 0x10, 0x00, 0x03] = [0xC3, 0x05, 0x00, 0x13, 0x00, 0x10, 0x00, 0x03, 0xD9, 0xFF] := by decide

theorem test_power_on_is_reset :
    after (.powerOn ⟨true, true, true, true⟩ true false) { jobAt [slotOf .ready entry1] .halted none with trail := ⟨[], 7⟩ } =
      State.reset := by decide +kernel
theorem test_power_on_reads_indications :
    (after (.powerOn ⟨true, false, true, true⟩ false true) State.reset).units.li.state = .unhomed ∧
    (after (.powerOn ⟨true, false, true, true⟩ false true) State.reset).llu.state = .unhomed ∧
    (after (.powerOn ⟨true, false, true, true⟩ false true) State.reset).arb.stopMark = true := by decide +kernel

def rxAt (r : Receiver) : State := { State.reset with link := { State.reset.link with receiver := r, byteTimer := some 3 } }

/-- R176: a length of 241 discards the frame, and its second byte is taken as though it had just arrived in HUNT. -/
theorem test_byte_rescan :
    (after (.byteReceived 0x00) (rxAt (.lengthSecond 0xF1))).link.receiver = .hunt ∧
    (after (.byteReceived 0x01) (rxAt (.lengthSecond 0xC3))).link.receiver = .lengthSecond 0x01 := by decide +kernel
theorem test_frame_received_buffers :
    (after (.frameReceived 0xFE) (rxAt (.checkSecond [0x02, 0x00, 0x07, 0x01] 0xF6))).link.input = [⟨0x0002, 0x0107, []⟩] := by
  decide +kernel
theorem test_frame_received_bad_check :
    (after (.frameReceived 0xFF) (rxAt (.checkSecond [0x02, 0x00, 0x07, 0x01] 0xF6))).link.input = [] := by decide +kernel
theorem test_gap_discards : (after .interByteTimeout (rxAt (.body 9 []))).link.receiver = .hunt := by decide +kernel
theorem test_frame_sent_frees_the_line : (after .frameSent State.reset).link.line = none := by decide +kernel
theorem test_unknown_kind_refused :
    (after (.unknownKindRequest 0x0030 0x0207 []) State.reset).link.replies =
      [⟨false, 0x00B0, 0x0207, .refused .badKind 0x0030 0x30 none⟩] := by decide +kernel
/-- R179, section 10.9: a request finds no frame in an empty buffer, and waits while an earlier reply is unsent. When that reply's
last byte has gone the waiting frame is taken before the waiting report begins, and its reply goes first. -/
def twoFrames : State :=
  { State.reset with
    link := { State.reset.link with
      input := [⟨0x0008, 2, []⟩], reports := [.jobState ⟨.idle, none, .powerOn, none, false, none⟩]
      replies := [⟨false, 0x0084, 1, .accepted⟩], line := some ⟨true, frameOf (Reply.body ⟨false, 0x0084, 1, .accepted⟩)⟩ } }
theorem test_request_without_a_frame : exec (.clearQueue 2 []) State.reset = .next State.reset := rfl
theorem test_waiting_frame_goes_first :
    after (.clearQueue 2 []) twoFrames = twoFrames ∧ (after .frameSent twoFrames).link.line = none ∧
    (after (.clearQueue 2 []) (after .frameSent twoFrames)).link.line.map (·.isReply) = some true ∧
    (after .frameSent (after (.clearQueue 2 []) (after .frameSent twoFrames))).link.line.map (·.isReply) = some false := by
  decide +kernel
theorem test_identify_bad_length :
    (after (.identify 1 [0]) State.reset).link.replies = [⟨false, 0x0081, 1, .refused .badLength 1 5 none⟩] := by decide +kernel
theorem test_read_parameters_defaults :
    (after (.readParameters 1 []) State.reset).link.replies =
      [⟨false, 0x0084, 1, .parameters
        [0, 0, 0, 6000, 14000, 5000, 10000, 800, 600, 150, 10, 15, 300, 250, 2, 1500, 2, 900, 3000, 20000, 3]⟩] := by
  decide +kernel

/-! ## The Work Queue (section 1.6) -/

/-- Bearer 202 as the section's steps 2 and 3 load it. -/
def entry202 (distance : Nat) (joined : Bool) : Entry :=
  ⟨202, distance, joined, false, true, .right, 0,
    ⟨set1, { set1 with depth := 680 }, set1, { set1 with insertions := 0 }⟩, 0, 0, 0, 0, some 40⟩

def queue3 : State :=
  jobAt [slotOf .ready { entry1 with number := 201, distance := 0 }, slotOf .ready (entry202 620 true),
    { slotOf .ready (entry202 0 true) with chainPos := 2 }] .idle none

def loaded (e : Entry) (s : State) : List Answer := (after (.loadEntry 1 (bodyOf e)) s).link.replies.map (·.answer)

theorem test_load_clamps_li_depth_and_ro_insertions :
    loaded (entry202 620 true) (jobAt [slotOf .ready { entry1 with number := 201 }] .idle none) = [.loaded 1 1 [7, 17]] := by
  decide +kernel
theorem test_load_refusals_of_the_example :
    loaded (entry202 0 true) queue3 = [.refused .joinMismatch 5 3 none] ∧
    loaded { entry1 with number := 203, distance := 580 } queue3 = [.refused .sequence 5 202 (some .equal)] ∧
    loaded (entry202 0 false) queue3 = [.loaded 3 3 [7, 17]] := by decide +kernel
theorem test_collect_frees_two :
    (after (.collectResults 1 []) (jobAt [slotOf .done entry1, slotOf .done entry1, slotOf .active entry1] .running none)).queue =
      ⟨2, [slotOf .active entry1]⟩ := by decide +kernel
theorem test_collect_keeps_an_open_chain :
    (after (.collectResults 1 []) (jobAt [slotOf .done (entry202 0 true)] .idle none)).queue.slots.length = 1 := by
  decide +kernel
/-- R19: at most six; and while a release without an active slot is under way, none from the held entry on. -/
theorem test_collect_takes_six :
    (after (.collectResults 1 []) (jobAt (List.replicate 7 (slotOf .done entry1)) .idle none)).queue = ⟨6, [slotOf .done entry1]⟩ := by
  decide +kernel
theorem test_collect_keeps_the_held_entry :
    (after (.collectResults 1 [])
      (jobAt [slotOf .done entry1, slotOf .skipped entry1, slotOf .ready entry1] .running (some .releasing))).queue =
        ⟨1, [slotOf .skipped entry1, slotOf .ready entry1]⟩ := by decide +kernel
theorem test_clear_queue : (after (.clearQueue 1 []) queue3).queue = ⟨0, []⟩ := by decide +kernel
theorem test_read_queue :
    (after (.readQueue 1 []) queue3).link.replies.map (·.answer) =
      [.queue ⟨[61, 3, 0, 0, 0, 0, 0, 0], some 0, none, 3, some 202, some (true, 2)⟩] := by decide +kernel

/-! ## The job (chapter 2) -/

theorem test_start_positions_at_zero :
    (after (.startJob 1 []) (jobAt [slotOf .ready entry1] .idle none)).travel = ⟨0, some 640, .fast, 0, none, .forwardFast⟩ ∧
    (after (.startJob 1 []) (jobAt [slotOf .ready entry1] .idle none)).arb.granted = [.unit .lo, .unit .li, .unit .ri] := by
  decide +kernel
theorem test_pause_waits_in_working :
    (after (.pauseJob 1 []) (jobAt [slotOf .active entry1] .running (some .working))).job.pausePending = true := by
  decide +kernel
theorem test_resume_in_working : (after (.resumeJob 1 []) (jobAt [slotOf .active entry1] .paused (some .working))).job.state = .running := by
  decide +kernel
theorem test_retry_counts :
    (after (.retryEntry 1 []) (jobAt [slotOf .faulted entry1] .halted none)).queue.slots.map (·.retries) = [1] := by
  decide +kernel
theorem test_retry_limit :
    (after (.retryEntry 1 []) (jobAt [{ slotOf .faulted entry1 with retries := 3 }] .halted none)).link.replies.map (·.answer) =
      [.refused .retryLimit 0x000C 3 none] := by decide +kernel
theorem test_skip_starves :
    (after (.skipEntry 1 []) (jobAt [slotOf .faulted entry1] .halted none)).job.phase = some .starved := by decide +kernel
theorem test_abort_aborts_ready :
    (after (.abortJob 1 []) (jobAt [slotOf .active entry1, slotOf .ready entry1] .running (some .positioning))).queue.slots.map
      (·.state) = [.aborted, .aborted] := by decide +kernel
/-- R39 gives a detail with WRONG_STATE; R40 and R42 give none, and R181 then sends 0. -/
theorem test_details_of_wrong_state :
    (after (.retryEntry 1 []) (jobAt [] .running none)).link.replies.map (·.answer) = [.refused .wrongState 0x000C 1 none] ∧
    (after (.skipEntry 1 []) (jobAt [] .running none)).link.replies.map (·.answer) = [.refused .wrongState 0x000D 0 none] ∧
    (after (.parkAll 1 []) (jobAt [] .paused none)).link.replies.map (·.answer) = [.refused .wrongState 0x000F 0 none] := by
  decide +kernel
theorem test_park_all_takes_unhomed :
    (after (.parkAll 1 []) (withUnit .li (TUnit.atPowerOn false) State.reset)).units.li.state = .retreating := by decide +kernel
theorem test_set_parameters_clamps_grant_slots :
    (after (.setParameters 1 (nat32 (2 ^ 20) ++ nat16 9)) State.reset).arb.slots = 5 := by decide +kernel

/-! ## The correction (section 3.6) -/

def curveInputs : Inputs := ⟨2184, 212, 1012, false, 5263, 950, 12, 6⟩
def noFlags : CorrFlags := ⟨false, false, false, false, false, false, false⟩

theorem test_worked_computation :
    correctionOf .default entry1 1 152300 curveInputs =
      ⟨152300, 2210, -4, 87, .left, 30, 319, 257, none, none, noFlags⟩ := by decide +kernel
theorem test_worked_computation_right :
    (correctionOf { Params.default with grade := .right } entry1 1 152300 curveInputs).demands = ⟨30, 381, 319, none⟩ := by
  decide +kernel
theorem test_worked_residual :
    residualOf ⟨152300, 2210, -4, 87, .left, 30, 319, 257, none, none, noFlags⟩ (channelsAt 2212 (-82) 0) = some (-2, 5) := by
  decide +kernel
theorem test_rounding_at_the_half :
    divRound 50000 20000 = 3 ∧ divRound (-50000) 20000 = -3 ∧ divRound (-72000) 20000 = -4 ∧ divRound 34000 20000 = 2 := by
  decide
theorem test_versine_rounds_twice : versine 6000 14000 1316 = 553 := by decide
theorem test_limit_cases :
    limit 800 950 = 800 ∧ raiseBoth (-35) 45 = 35 ∧ limit 150 (-210) = -150 ∧ raiseBoth (-40) (-190) = 190 ∧
    gradeLift 0 0 20 = 0 := by decide
/-- The case "hook over": HOOK RIGHT with a right lift of 580 and a branch offset of +40. -/
theorem test_hook_over :
    (correctionOf .default { entry1 with hook := true, hookSide := .right, branch := some 40, frontLift := 0, allowance := 0 } 1 0
      ⟨0, 580, 0, false, 0, 0, 0, 0⟩).hookLift = some 600 := by decide +kernel

/-! ## The Design Table (section 4.5) -/

def curveTable : DesignTable :=
  ⟨.valid, some (4, 0),
    [⟨0, .straight, 100000, 20000, 0, 0, 0, 0⟩, ⟨1, .transition, 120000, 30000, 0, 5263, 0, 950⟩,
     ⟨2, .curve, 150000, 40000, 5263, 5263, 950, 950⟩, ⟨3, .transition, 190000, 30000, 5263, 0, 950, 0⟩], 0⟩

theorem test_lookups :
    [99999, 100000, 119999, 120000, 127500, 135000, 152300, 205000, 219999, 220000].map curveTable.lookup =
      [none, some (0, 0), some (0, 0), some (0, 0), some (1316, 238), some (2632, 475), some (5263, 950), some (2631, 475),
       some (0, 0), none] := by decide +kernel

/-- The table after step 2 of the example. -/
def loading1 : State :=
  { State.reset with table := ⟨.loading, some (4, 0), [⟨0, .straight, 100000, 20000, 0, 0, 0, 0⟩], 5⟩ }

def segmentReply (g : Segment) : List Answer := (after (.tableSegment 1 (segmentBytes g)) loading1).link.replies.map (·.answer)

theorem test_segment_refusals :
    segmentReply ⟨2, .curve, 150000, 40000, 5263, 5263, 950, 950⟩ = [.refused .tableOrder 0x11 1 none] ∧
    segmentReply ⟨1, .curve, 120000, 30000, 0, 5263, 0, 950⟩ = [.refused .tableKind 0x11 6 none] ∧
    segmentReply ⟨1, .transition, 121000, 30000, 0, 5263, 0, 950⟩ = [.refused .tableGap 0x11 0 none] ∧
    segmentReply ⟨4, .transition, 120000, 30000, 0, 5263, 0, 950⟩ = [.refused .tableFull 0x11 4 none] := by decide +kernel
theorem test_segment_accepted :
    (after (.tableSegment 1 (segmentBytes ⟨1, .transition, 120000, 30000, 0, 5263, 0, 950⟩)) loading1).table.segments.length = 2 := by
  decide +kernel
theorem test_open_table : (after (.openTable 1 [4, 0x34, 0x12]) loading1).table = ⟨.loading, some (4, 0x1234), [], 0⟩ := by
  decide +kernel
theorem test_close_table_counts :
    (after (.closeTable 1 []) loading1).link.replies.map (·.answer) = [.tableClosed .count 1 5] := by decide +kernel
theorem test_read_table_past_the_last :
    (after (.readTable 1 [9]) loading1).link.replies.map (·.answer) =
      [.table ⟨.loading, some (4, 0), 1, 1, 5, none⟩] := by decide +kernel

/-! ## Channels and trail (chapter 5) -/

def trail5 : List TrailRecord :=
  [⟨1780, some 2, some 0⟩, ⟨2400, some 6, some (-1)⟩, ⟨3020, some 9, some 4⟩, ⟨3640, some (-2), some 3⟩, ⟨4255, some 5, some 0⟩]
def trailBefore : Trail := ⟨trail5 ++ [⟨4870, none, none⟩], 6⟩
def trailAfter : Trail := ⟨trail5 ++ [⟨4861, some 3, some 1⟩], 7⟩

theorem test_append_removes_what_lies_beyond : trailBefore.append ⟨4861, some 3, some 1⟩ = trailAfter := by decide +kernel
theorem test_trail_questions :
    trailBefore.question (·.line) 4600 = 2 ∧ trailAfter.question (·.line) 4600 = 4 ∧
    [-20, 1000, 2400, 2710, 3330, 4400, 4870].map (trailAfter.question (·.line)) = [0, 2, 6, 8, 3, 5, 3] ∧
    [-20, 1000, 2400, 2710, 3330, 4400, 4870].map (trailAfter.question (·.level)) = [0, 0, -1, 2, 3, 0, 1] := by decide +kernel
/-- R86: a missed sample takes a VALID channel to HELD with the count 1, a good one a LOST channel to VALID. -/
theorem test_sample_moves_channels :
    (after .sampleTimerExpiry (withChannels (channelsAt 5 6 7) State.reset)).meas.channels.line = ⟨.held, 1, some 5⟩ ∧
    (after (.sampleArrival (sampleOf 5 6 7)) State.reset).meas.channels.levelL = ⟨.valid, 0, some 6⟩ := by decide +kernel
theorem test_read_measurement_answers :
    (after (.readMeasurement 1 []) State.reset).link.replies.map (·.answer) =
      [.measurement Measurement.initial.channels 0] := by decide +kernel
theorem test_read_trail_from_record_4 :
    (after (.readTrail 1 [4]) { State.reset with trail := trailAfter }).link.replies.map (·.answer) =
      [.trail 6 7 [⟨4255, some 5, some 0⟩, ⟨4861, some 3, some 1⟩]] := by decide +kernel
theorem test_read_status_names_the_job :
    (after (.readStatus 1 []) State.reset).job = State.reset.job := by decide +kernel

/-! ## Travel (section 6.4) -/

def travelAt (p : Int) (st : PosState) (reversals : Nat) (settle : Timer) (d : Drive) : State :=
  { jobAt [slotOf .active { entry1 with localCurv := 0 }] .running (some .positioning) with
    travel := ⟨p, some 640, st, reversals, settle, d⟩, units := ⟨unitIn .set, unitIn .set, unitIn .set, unitIn .set⟩ }

theorem test_step_to_creep :
    (after (.odometerStep 100) (travelAt 303 .fast 0 none .forwardFast)).travel =
      ⟨403, some 640, .creep, 0, none, .forwardCreep⟩ := by decide +kernel
theorem test_step_to_stopping :
    (after (.odometerStep 45) (travelAt 583 .creep 0 none .forwardCreep)).travel =
      ⟨628, some 640, .stopping, 0, some 250, .stop⟩ := by decide +kernel
theorem test_rest_beyond_reverses :
    (after .positionSettleExpiry (travelAt 660 .stopping 0 (some 250) .stop)).travel =
      ⟨660, some 640, .reversing, 1, none, .reverseCreep⟩ := by decide +kernel
theorem test_rest_in_position_works :
    (after .positionSettleExpiry (withChannels (channelsAt 0 0 0) (travelAt 652 .stopping 1 (some 250) .stop))).job.phase =
      some .working := by decide +kernel

/-- R105, R116, R38: the drive is stopped at the change that ends the permission, before the orders of the retreat that follows. -/
def rollingIn : State :=
  { travelAt 100 .fast 0 none .forwardFast with
    units := ⟨.atPowerOn true, unitOn .shifting (.shift 120 15) 7, unitOn .shifting (.shift 120 15) 41, .atPowerOn true⟩ }
theorem test_stuck_unit_stops_the_drive_first :
    (after (.shiftTimeout .ri) rollingIn).field.sent = [.unitCancel .ri 41, .drive .stop, .unitCancel .li 7] ∧
    (after (.shiftTimeout .ri) rollingIn).job.halt = some ⟨.unitStuck, .unit .ri, some 0, none⟩ := by decide +kernel
theorem test_travel_limit_stops_the_drive_first :
    (after (.odometerStep 80) { rollingIn with travel := ⟨3999950, some 4000000, .fast, 0, none, .forwardFast⟩ }).field.sent =
      [.drive .stop, .unitCancel .li 7, .unitCancel .ri 41] := by decide +kernel

/-! ## A unit through its entry (section 7.11) -/

def riAt (x : TUnit) : State := withUnit .ri x (jobAt [slotOf .active entry1] .running (some .working))

theorem test_grant_orders_shift :
    (after (.unitGrant .ri)
      { riAt { unitIn .shifting with waiting := true, orderNo := 40 } with
        arb := { Arbiter.atPowerOn false with granted := [.unit .ri] } }).units.ri.order = some (.shift 120 15, 41) := by
  decide +kernel
theorem test_shift_reached_sets :
    (after (.shiftReached .ri 41) (riAt (unitOn .shifting (.shift 120 15) 41))).units.ri.state = .set := by decide +kernel
theorem test_old_depth_is_ignored :
    after (.depthReached .ri 42) (riAt (unitOn .liftingOut .raiseMid 43)) = riAt (unitOn .liftingOut .raiseMid 43) := by
  decide +kernel
theorem test_depth_squeezes_with_the_gate_open :
    (after (.depthReached .ri 44) (withLlu (lluIn .atDemand) (riAt (unitOn .lowering (.lower 560) 44)))).units.ri.order =
      some (.squeeze 120, 45) := by decide +kernel
theorem test_insertion_expiry_retries :
    (after (.insertionTimerExpiry .ri) (riAt (unitOn .lowering (.lower 560) 42))).units.ri.state = .liftingOut ∧
    (after (.insertionTimerExpiry .ri) (riAt (unitOn .lowering (.lower 560) 42))).units.ri.result.retriesUsed = 1 := by
  decide +kernel
def pressed (bar : Int) (x : TUnit) : State :=
  withChannels
    { Measurement.initial.channels with press := { Measurement.initial.channels.press with ri := ⟨.valid, 0, some bar⟩ } } (riAt x)
theorem test_squeeze_good_at_112 :
    (after (.squeezeTimerExpiry .ri) (pressed 112 (unitOn .squeezing (.squeeze 120) 45))).units.ri.result.squeezeLow = false ∧
    (after (.squeezeTimerExpiry .ri) (pressed 108 (unitOn .squeezing (.squeeze 120) 45))).units.ri.result.squeezeLow = false := by
  decide +kernel
theorem test_squeeze_low_at_104 :
    (after (.squeezeTimerExpiry .ri) (pressed 104 (unitOn .squeezing (.squeeze 120) 49))).units.ri.result.squeezeLow = true := by
  decide +kernel
theorem test_tines_open_next_insertion :
    (after (.tinesOpen .ri 46) (riAt (unitOn .opening .opens 46))).units.ri.state = .liftingOut ∧
    (after (.tinesOpen .ri 50) (riAt { unitOn .opening .opens 50 with insertion := 2 })).units.ri.state = .raising := by
  decide +kernel
theorem test_at_mid_lowers : (after (.atMid .ri 43) (riAt (unitOn .liftingOut .raiseMid 43))).units.ri.state = .lowering := by
  decide +kernel
theorem test_at_park_is_done : (after (.atPark .ri 51) (riAt (unitOn .raising .raisePark 51))).job.done.ri = true := by
  decide +kernel
theorem test_timeouts_make_stuck :
    (after (.shiftTimeout .ri) (riAt (unitOn .shifting (.shift 120 15) 1))).units.ri.state = .stuck ∧
    (after (.openTimeout .ri) (riAt (unitOn .opening .opens 1))).units.ri.state = .stuck ∧
    (after (.raiseMidTimeout .ri) (riAt (unitOn .liftingOut .raiseMid 1))).job.state = .halted ∧
    (after (.raiseParkTimeout .ri) (riAt (unitOn .raising .raisePark 1))).units.ri.state = .stuck := by decide +kernel

/-! ## The LLU through its entry (section 8.11) -/

def demands1 : Demands := ⟨30, 319, 257, none⟩
def lluAt (x : Llu) : State := withLlu { x with demands := some demands1 } (jobAt [slotOf .active entry1] .running (some .working))
def lifting19 : Llu :=
  { lluOn .lifting (.liftLine 30 319 257 none) 19 with baseline := some ⟨2184, 212, 1012, none⟩, achieved := some ⟨0, 0, 0, none⟩ }

theorem test_grant_orders_clamp :
    (after .lluGrant { lluAt { lluIn .clamping with waiting := true, clampsClosed := false, orderNo := 17 } with
        arb := { Arbiter.atPowerOn false with granted := [.llu] } }).llu.order = some (.clamp none, 18) := by decide +kernel
theorem test_clamped_lifts :
    (after (.clamped 18) (withChannels (channelsAt 2184 212 1012) (lluAt (lluOn .clamping (.clamp none) 18)))).llu.order =
      some (.liftLine 30 319 257 none, 19) := by decide +kernel
theorem test_lift_samples :
    (after (.sampleArrival (sampleOf 2200 60 950)) (lluAt lifting19)).llu.achieved = some ⟨16, 152, 90, none⟩ ∧
    (after (.sampleArrival (sampleOf 2200 60 950)) (lluAt lifting19)).llu.state = .lifting := by decide +kernel
theorem test_arrival :
    (after (.sampleArrival (sampleOf 2212 (-100) 950)) (lluAt lifting19)).llu.state = .atDemand ∧
    (after (.sampleArrival (sampleOf 2212 (-100) 950)) (lluAt lifting19)).llu.achieved = some ⟨28, 312, 250, none⟩ := by
  decide +kernel
theorem test_lift_timer_is_short :
    (after .liftTimerExpiry (lluAt lifting19)).llu.liftShort = true ∧ (after .liftTimerExpiry (lluAt lifting19)).llu.state = .atDemand := by
  decide +kernel
theorem test_force_limit : (after (.forceLimit 19) (lluAt lifting19)).llu.lineForce = true := by decide +kernel
theorem test_unclamped_settles :
    (after (.unclamped 20) (lluAt (lluOn .releasing .unclamp 20))).llu.settle = some 250 := by decide +kernel
theorem test_settle_expiry : (after .lluSettleExpiry (lluAt { lluIn .settling with settle := some 250, count := 3 })).llu.count = 0 := by
  decide +kernel
def settling1 : State :=
  { lluAt (lluIn .settling) with
    job := { Job.atPowerOn with state := .running, phase := some .releasing }
    engine := .closing ⟨152300, 2210, -4, 87, .left, 30, 319, 257, none, none, noFlags⟩ }
theorem test_residual_ends_the_entry :
    (after (.sampleArrival (sampleOf 2212 (-82) 950)) settling1).trail.records = [⟨152300, some (-2), some 5⟩] ∧
    (after (.sampleArrival (sampleOf 2212 (-82) 950)) settling1).queue.slots.map (·.state) = [.done] := by decide +kernel
theorem test_clamp_timeout_sticks :
    (after .clampTimeout (lluAt (lluOn .clamping (.clamp none) 18))).llu.state = .stuck ∧
    (after .unclampTimeout (lluAt (lluOn .releasing .unclamp 20))).job.state = .halted := by decide +kernel
theorem test_join_hold_releases :
    (after .joinHoldExpiry { lluAt { lluIn .holding with joinHold := some 20000 } with
        job := { Job.atPowerOn with state := .running, phase := some .holding } }).llu.state = .releasing := by decide +kernel

/-! ## The arbiter (section 9.7) -/

/-- The sequence of the first sleeper of a job, from its first request on. -/
def firstSleeper : List (Arbiter → Arbiter) :=
  [.request (.unit .lo), .request (.unit .li), .request (.unit .ri), .request (.unit .ro), .release (.unit .ri), .request .llu,
   .request (.unit .ri), .release (.unit .lo), .request (.unit .lo), .release (.unit .li), .request (.unit .li),
   .release (.unit .ro), .request (.unit .ro), .release (.unit .lo), .release .llu]

theorem test_first_sleeper :
    (firstSleeper.take 8).foldl (fun a f => f a) (.atPowerOn false) =
      ⟨3, none, [.unit .li, .unit .ro, .llu], [.unit .ri], some .ro, false, false⟩ ∧
    (firstSleeper.take 12).foldl (fun a f => f a) (.atPowerOn false) =
      ⟨3, none, [.llu, .unit .lo, .unit .li], [.unit .ri], some .li, false, false⟩ ∧
    firstSleeper.foldl (fun a f => f a) (.atPowerOn false) =
      ⟨3, none, [.unit .li, .unit .ri, .unit .ro], [], some .ro, false, false⟩ := by decide +kernel

/-! ## Stop line, self-test, restart (sections 7.12, 11.4; R186) -/

def squeezing4 : State :=
  { withLlu (lluIn .atDemand) (jobAt [slotOf .active entry1] .running (some .working)) with
    units := ⟨unitOn .squeezing (.squeeze 120) 1, unitOn .squeezing (.squeeze 120) 1, unitOn .lowering (.lower 560) 1,
      unitOn .shifting (.shift 120 15) 1⟩ }

theorem test_stop_line_holds :
    (after .stopLineAssertion squeezing4).units.map (·.state) = ⟨.held, .held, .held, .held⟩ ∧
    (after .stopLineAssertion squeezing4).job.halt = some ⟨.stopLine, .stopLine, some 0, none⟩ := by decide +kernel
theorem test_stop_line_release :
    (after .stopLineRelease (after .stopLineAssertion squeezing4)).units.map (·.state) =
      ⟨.opening, .opening, .retreating, .retreating⟩ := by decide +kernel

/-- The short run of chapter 11, at item 5 of group 2. -/
def item5 : State :=
  { State.reset with test := ⟨true, (2, 0), (2, 5), [(2, 6), (2, 7), (2, 8), (2, 9)], 4, some 100, none, false, none⟩ }

theorem test_self_test_starts : (after (.selfTest 1 [2, 0]) State.reset).link.replies.map (·.answer) = [.testStarted 9] := by
  decide +kernel
theorem test_item_without_a_good_sample :
    (after .selfTestItemExpiry item5).test.failure = some ⟨2, 5, .noSample, 0, 1⟩ ∧
    (after .selfTestItemExpiry item5).test.passed = 4 := by decide +kernel
theorem test_readback_counts :
    (after (.valveReadback .lluLift 612) (after (.selfTest 1 [1, 5]) State.reset)).test.readback = some 612 := by decide +kernel
theorem test_memory_mismatch :
    (after (.memoryMismatch 0x1234 0x1235) (after (.selfTest 1 [3, 2]) State.reset)).test.failure =
      some ⟨3, 2, .memory, 0x1234, 0x1235⟩ := by decide +kernel
theorem test_restart_waits_for_its_reply :
    (after (.restart 1 []) State.reset).link.restartPending = true ∧
    after .restartEffect (after (.restart 1 []) State.reset) = after (.restart 1 []) State.reset := by decide +kernel
theorem test_restart_effect_keeps_a_valid_table :
    (after .restartEffect
      { State.reset with table := curveTable, link := { State.reset.link with restartPending := true } }).table = curveTable := by
  decide +kernel

/-! ## Witnesses: each shows a state and operands that meet the conditions of one statement, clause by clause -/

def frame (kind tag : Word) (body : List Byte) : Frame := ⟨kind, tag, body⟩

/-- After power-on no reply is unsent and no restart pending, so a request whose frame alone is in the buffer may be taken. -/
theorem takeable_asked (f : Frame) (s : State) (h : s.link = State.reset.link) : Takeable (asked f s) f := by
  simp [Takeable, asked, h, State.reset, Link.atPowerOn]

theorem noRetreat_of {s : State} (h : s.arb.retreatMode = false ∧ s.llu.retreat = false) : NoRetreat s := h

/-- A state with the link as after power-on in which a RESTART reply has gone. -/
def restarting : State := { State.reset with link := { State.reset.link with restartPending := true } }

/-- A state with a taken reply unsent. -/
def owing : State := after (.readParameters 1 []) State.reset

theorem witness_StepTakesTheFrontCommand :
    ({ State.reset with pending := [.frameSent] } : State).pending = [.frameSent] ∧ State.reset.pending = [] := by decide

/-- `l` after power-on with another receiver, its timer running. -/
theorem witness_BytesMoveTheReceiver :
    ∀ r ∈ [Receiver.lengthFirst, .lengthSecond 4, .lengthSecond 0xF0, .lengthSecond 0xF1, .lengthSecond 0xC3, .body 4 [1, 2, 3],
        .body 240 [], .checkFirst [1, 2, 3, 4]],
      (rxAt r).link.ReceiverSound ∧ State.reset.link.ReceiverSound ∧ ∀ got low, (rxAt r).link.receiver ≠ .checkSecond got low := by
  simp [Link.ReceiverSound, rxAt, State.reset, Link.atPowerOn]

theorem witness_FrameEndJudgesTheCheck :
    (rxAt (.checkSecond [2, 0, 7, 1] 0xF6)).link.receiver = .checkSecond [2, 0, 7, 1] 0xF6 ∧
    (({ (rxAt (.checkSecond [2, 0, 7, 1] 0xF6)) with
        link := { (rxAt (.checkSecond [2, 0, 7, 1] 0xF6)).link with input := List.replicate 4 (frame 1 1 []) } } : State)).link.receiver =
      .checkSecond [2, 0, 7, 1] 0xF6 := by decide

theorem witness_GapDiscardsTheFrame : (rxAt .lengthFirst).link.byteTimer ≠ none ∧ State.reset.link.byteTimer = none := by decide

theorem witness_FrameSentBeginsTheNext :
    State.reset.link.line = some ⟨false, frameOf ((Report.jobState ⟨.idle, none, .powerOn, none, false, none⟩).body false)⟩ ∧
    restarting.link.restartPending = true ∧ (∀ r ∈ restarting.link.replies, r.busy = true) ∧ owing.link.line ≠ none ∧
    twoFrames.link.line.map (·.isReply) = some true ∧ twoFrames.link.input ≠ [] ∧ twoFrames.link.reports ≠ [] := by
  decide +kernel

theorem witness_SentFrameIsReceived :
    (List.replicate 236 (0 : Byte)).length ≤ 236 ∧ Link.bare.receiver = .hunt ∧ Link.bare.input.length < 4 := by decide +kernel

/-- A state that meets every invariant, one step before an odometer step. -/
def rolling : State := { State.reset with pending := [.odometerStep 5] }

theorem witness_invariants :
    ArbiterSound rolling ∧ LinkSound rolling ∧ DriveSound rolling ∧ TableHeld rolling ∧ QueueSound rolling ∧
    WorkheadSound rolling ∧ StoreSound rolling ∧ (∃ t, step rolling = .next t) := by
  refine ⟨?_, ?_, ?_, ?_, queueSound_of_test (by decide), workhead_of_test (by decide), ?_, ⟨_, rfl⟩⟩
  · simp [ArbiterSound, Arbiter.Sound, rolling, State.reset, Arbiter.atPowerOn, Params.default]
  · simp [LinkSound, Link.ReceiverSound, rolling, State.reset, Link.atPowerOn]
  · show rolling.travel.drive = rolling.driveDue; decide
  · simp [TableHeld, rolling, State.reset, Job.atPowerOn, SelfTest.idle]
  · refine ⟨?_, ?_, ?_, ?_, ?_⟩
    · unfold Params.InRange; decide
    · intro c; rcases c with _ | _ | _ | _ | _ | u <;> (try cases u) <;>
        simp [ChannelRec.Sound, rolling, State.reset, Measurement.initial, Channels.get, Quad.get, ChannelRec.lostEmpty]
    · simp [Trail.Sound, rolling, State.reset]
    · simp [TravelSound, rolling, State.reset, Job.atPowerOn, Travel.initial]
    · simp [DesignTable.Sound, rolling, State.reset, DesignTable.empty, DesignTable.count]

theorem witness_GeneralTestsJudgeEveryRequest :
    requestFrame (.unknownKindRequest 0x0018 1 []) = some (frame 0x0018 1 []) ∧
    Takeable (asked (frame 0x0018 1 []) State.reset) (frame 0x0018 1 []) ∧ ¬ Takeable State.reset (frame 0x0018 1 []) ∧
    requestFrame (.readStatus 1 [0]) = some (frame 0x0002 1 [0]) ∧ ¬ FitsKind (frame 0x0002 1 [0]) ∧
    (∀ k g b, Instr.readStatus 1 [0] ≠ .unknownKindRequest k g b) ∧ ¬ Takeable owing (frame 0x0002 1 []) ∧
    requestFrame (.clearQueue 1 []) = some (frame 0x0008 1 []) ∧ FitsKind (frame 0x0008 1 []) ∧
    item5.test.running = true ∧ ¬ ReadingKind (frame 0x0008 1 []).kind ∧
    Takeable (asked (frame 0x0008 1 []) item5) (frame 0x0008 1 []) ∧
    Takeable (asked (frame 0x0002 1 [0]) State.reset) (frame 0x0002 1 [0]) := by
  refine ⟨rfl, takeable_asked _ _ rfl, by simp [Takeable, State.reset, Link.atPowerOn], rfl, ?_, by simp, ?_, rfl, ?_, by decide, ?_,
    takeable_asked _ _ rfl, takeable_asked _ _ rfl⟩
  · unfold FitsKind; decide
  · intro h; exact absurd (h.1 (owing.link.replies.headD ⟨true, 0, 0, .accepted⟩) (by decide +kernel)) (by decide +kernel)
  · unfold FitsKind; decide
  · unfold ReadingKind; decide

theorem witness_ReadingRequestsAnswer : ∀ f : Frame, Takeable (asked f State.reset) f := fun f => takeable_asked f _ rfl

/-! ### The Work Queue -/

def loadOf (e : Entry) : Frame := ⟨0x0005, 1, bodyOf e⟩

/-- The correction of section 3.6. -/
def corr1 : Correction := ⟨152300, 2210, -4, 87, .left, 30, 319, 257, none, none, noFlags⟩

/-- The track held by the LLU with no entry active. -/
def holdingTrack : State :=
  { withLlu (lluIn .holding) (jobAt [slotOf .done { entry1 with joinedNext := true }] .running (some .holding)) with
    engine := .held corr1 }

/-- A continuation without used units. -/
def unused (joined : Bool) : Entry := { entry1 with distance := 0, joinedNext := joined, units := ⟨set0, set0, set0, set0⟩ }

theorem witness_LoadStoresTheEntry :
    (∀ p ∈ [(entry1, jobAt [] .idle none), (entry1, jobAt [] .running (some .starved)), ({ entry1 with distance := 0 }, holdingTrack),
        (unused false, holdingTrack), (unused true, holdingTrack)],
      let s := asked (loadOf p.1) p.2
      let e := decodeEntry (bodyOf p.1)
      Takeable s (loadOf p.1) ∧ loadFits (bodyOf p.1) = true ∧ s.test.running = false ∧ s.queue.slots.length < 64 ∧
      NumberInOrder s.queue e ∧ ChainInOrder s.queue e ∧ e.distance ≤ 2500 ∧ (∀ y ∈ s.queue.slots, y.state ≠ .ready)) ∧
    ¬ LoadActivates (jobAt [] .idle none) ∧ DriveSound (jobAt [] .idle none) ∧
    (jobAt [] .running (some .starved)).llu.state ≠ .holding ∧ holdingTrack.llu.state = .holding ∧ NoneWorking holdingTrack.queue ∧
    holdingTrack.engine = .held corr1 ∧ (decodeEntry (bodyOf { entry1 with distance := 0 })).units.lo.mask ≠ 0 ∧
    ∀ b ∈ [false, true], (decodeEntry (bodyOf (unused b))).joinedNext = b ∧
      (decodeEntry (bodyOf (unused b))).units.map (·.mask) = ⟨0, 0, 0, 0⟩ := by
  unfold Takeable NumberInOrder ChainInOrder LoadActivates DriveSound NoneWorking; decide +kernel

theorem witness_DistanceIsTestedLast :
    (∀ d ∈ [2500, 2501],
      let x : Entry := { entry1 with distance := d }
      let s := asked (loadOf x) (jobAt [] .idle none)
      Takeable s (loadOf x) ∧ loadFits (bodyOf x) = true ∧ s.queue.slots.length < 64 ∧
      NumberInOrder s.queue (decodeEntry (bodyOf x)) ∧ ChainInOrder s.queue (decodeEntry (bodyOf x)) ∧
      (decodeEntry (bodyOf x)).distance = d) ∧
    (let x : Entry := { entry1 with distance := 2501 }
     let s := asked (loadOf x) (jobAt [slotOf .ready { entry1 with joinedNext := true }] .idle none)
     Takeable s (loadOf x) ∧ s.queue.reference.2.1 = true ∧ NumberInOrder s.queue (decodeEntry (bodyOf x)) ∧
     2500 < (decodeEntry (bodyOf x)).distance) := by
  unfold Takeable NumberInOrder ChainInOrder; decide +kernel

theorem witness_LoadRefusalsInOrder :
    (let s := asked (loadOf entry1) (jobAt (List.replicate 64 (slotOf .ready entry1)) .idle none)
     Takeable s (loadOf entry1) ∧ 64 ≤ s.queue.slots.length) ∧
    ¬ NumberInOrder queue3.queue (decodeEntry (bodyOf entry1)) ∧ queue3.queue.slots.length < 64 ∧
    (∀ d ∈ [1, 2, 3], ∃ e, e ∈ [{ entry202 7 false with distance := 7 }, { entry202 0 true with isEnd := true }, entry202 0 true] ∧
      Takeable (asked (loadOf e) queue3) (loadOf e) ∧ loadFits (bodyOf e) = true ∧
      NumberInOrder queue3.queue (decodeEntry (bodyOf e)) ∧ FirstChainFault queue3.queue (decodeEntry (bodyOf e)) d) := by
  refine ⟨⟨takeable_asked _ _ rfl, by decide +kernel⟩, by unfold NumberInOrder; decide +kernel, by decide, ?_⟩
  intro d hd
  simp only [List.mem_cons, List.not_mem_nil, or_false] at hd
  rcases hd with rfl | rfl | rfl
  · exact ⟨_, .head _, takeable_asked _ _ rfl, by decide +kernel, by unfold NumberInOrder; decide +kernel,
      by unfold FirstChainFault; decide +kernel⟩
  · exact ⟨_, .tail _ (.head _), takeable_asked _ _ rfl, by decide +kernel, by unfold NumberInOrder; decide +kernel,
      by unfold FirstChainFault; decide +kernel⟩
  · exact ⟨_, .tail _ (.tail _ (.head _)), takeable_asked _ _ rfl, by decide +kernel, by unfold NumberInOrder; decide +kernel,
      by unfold FirstChainFault; decide +kernel⟩

/-- Entries with the optional fields present, and one that may leave them all out. -/
theorem witness_RequestBodiesRoundTrip :
    (∀ e ∈ [{ entry202 65535 true with number := 65535, frontLift := -32768, localCurv := 32767 }, entry1,
        { entry1 with frontOffset := 0, frontLift := 0, localCurv := 0, localCant := 0 }],
      e.number < 65536 ∧ e.distance < 65536 ∧ e.hook = e.branch.isSome ∧
      e.units.all (fun g => decide (g.mask < 16) && decide (g.insertions < 256)) = true ∧
      ∀ x ∈ e.setpoints, -32768 ≤ x.value ∧ x.value ≤ 32767) ∧
    (let g : Segment := ⟨255, .transition, -2147483648, 2147483647, -32768, 32767, 0, 1⟩
     g.index < 256 ∧ -2147483648 ≤ g.start ∧ g.length ≤ 2147483647 ∧ ∀ x ∈ [g.k0, g.k1, g.cant0, g.cant1], -32768 ≤ x ∧ x ≤ 32767) := by
  decide +kernel
theorem test_absent_fields_read_as_zero :
    let e : Entry := { entry1 with frontOffset := 0, frontLift := 0, localCurv := 0, localCant := 0 }
    decodeEntry (encodeEntry false false false false e) = e ∧
    (encodeEntry false false false false e).length + 8 = (bodyOf e).length := by decide +kernel

/-- A plain collection, one of seven finished slots, and one that the held entry stops. -/
theorem witness_CollectAndClear :
    (∀ s ∈ [jobAt [slotOf .done entry1] .idle none, jobAt (List.replicate 7 (slotOf .done entry1)) .idle none,
        jobAt [slotOf .done entry1, slotOf .skipped entry1, slotOf .ready entry1] .running (some .releasing)],
      Takeable (asked (frame 0x0006 1 []) s) (frame 0x0006 1 []) ∧ s.test.running = false) ∧
    Takeable (asked (frame 0x0008 1 []) queue3) (frame 0x0008 1 []) ∧ queue3.test.running = false ∧ queue3.job.state = .idle := by
  unfold Takeable; decide +kernel

/-! ### The job -/

theorem witness_StartBeginsAtTheOldestReady :
    let s := asked (frame 0x0009 1 []) (jobAt [slotOf .done entry1, slotOf .ready entry1] .idle none)
    Takeable s (frame 0x0009 1 []) ∧ s.test.running = false ∧ s.job.state = .idle ∧ OldestReady s.queue 1 (slotOf .ready entry1) ∧
    NoneWorking s.queue ∧ AtPark s ∧ s.params.mode = .localMode :=
  ⟨takeable_asked _ _ rfl, rfl, rfl, oldestReady_of_test (by decide), by unfold NoneWorking; decide,
    ⟨forall_unit (by decide), by decide, rfl⟩, rfl⟩

theorem witness_WrongJobStateRefuses :
    (∀ c ∈ [Instr.setParameters 1 [0, 0, 0, 0], .clearQueue 1 [], .startJob 1 [], .selfTest 1 [0, 0], .restart 1 []],
      ∃ f, requestFrame c = some f ∧ FitsKind f ∧ f.kind.toNat ∈ [0x03, 0x08, 0x09, 0x16, 0x17]) ∧
    (∀ c ∈ [Instr.pauseJob 1 [], .resumeJob 1 [], .retryEntry 1 [], .skipEntry 1 [], .abortJob 1 [], .parkAll 1 []],
      ∃ f, requestFrame c = some f ∧ FitsKind f ∧ f.kind.toNat ∈ [0x0A, 0x0B, 0x0C, 0x0D, 0x0E, 0x0F]) ∧
    (jobAt [] .running none).job.state ≠ .idle ∧ (jobAt [] .idle none).job.state = .idle ∧
    (∀ x ∈ (jobAt [slotOf .done entry1] .halted none).queue.slots, x.state ≠ .active ∧ x.state ≠ .faulted) ∧
    (∀ f, Takeable (asked f (jobAt [] .running none)) f ∧ Takeable (asked f (jobAt [slotOf .done entry1] .halted none)) f ∧
      Takeable (asked f (jobAt [] .idle none)) f) := by
  refine ⟨?_, ?_, by decide, by decide, by decide,
    fun f => ⟨takeable_asked _ _ rfl, takeable_asked _ _ rfl, takeable_asked _ _ rfl⟩⟩ <;>
    · intro c hc
      simp only [List.mem_cons, List.not_mem_nil, or_false] at hc
      rcases hc with rfl | rfl | rfl | rfl | rfl | rfl <;>
        exact ⟨_, rfl, by unfold FitsKind; decide, by decide⟩

theorem witness_StartAndRecoveryRefusals :
    (∀ f, ∀ s ∈ [jobAt [slotOf .done entry1] .idle none, jobAt [slotOf .ready entry1] .idle none, withUnit .lo (unitIn .stuck) State.reset,
        jobAt [{ slotOf .faulted entry1 with retries := 3 }] .halted none], Takeable (asked f s) f ∧ s.test.running = false) ∧
    (∀ x ∈ (jobAt [slotOf .done entry1] .idle none).queue.slots, x.state ≠ .ready) ∧
    (∃ x ∈ (jobAt [slotOf .ready entry1] .idle none).queue.slots, x.state = .ready) ∧
    FirstNotParked (withUnit .lo (unitIn .stuck) State.reset) 1 ∧ FirstNotParked (withUnit .li (unitIn .stuck) State.reset) 2 ∧
    FirstNotParked (withUnit .ri (unitIn .stuck) State.reset) 3 ∧ FirstNotParked (withUnit .ro (unitIn .stuck) State.reset) 4 ∧
    FirstNotParked (withLlu (lluIn .stuck) State.reset) 5 ∧
    FirstNotParked { State.reset with field := ⟨true, []⟩ } 6 ∧ AtPark State.reset ∧
    State.reset.params.mode = .design ∧ State.reset.table.state ≠ .valid ∧
    OnlyWorking (jobAt [{ slotOf .faulted entry1 with retries := 3 }] .halted none).queue 0
      { slotOf .faulted entry1 with retries := 3 } := by
  refine ⟨?_, by decide, by decide, .inl (by decide), .inr (.inl (by decide)), .inr (.inr (.inl (by decide))),
    .inr (.inr (.inr (.inl (by decide)))),
    .inr (.inr (.inr (.inr (.inl ⟨forall_unit (by decide), by decide, rfl⟩)))),
    .inr (.inr (.inr (.inr (.inr ⟨forall_unit (by decide), by decide, rfl, rfl⟩)))),
    ⟨forall_unit (by decide), by decide, rfl⟩, by decide, by decide, onlyWorking_of_test (by decide)⟩
  intro f s hs
  simp only [List.mem_cons, List.not_mem_nil, or_false] at hs
  rcases hs with rfl | rfl | rfl | rfl <;> exact ⟨takeable_asked _ _ rfl, rfl⟩

theorem witness_PauseStopsOrWaits :
    ∀ ph ∈ [Phase.positioning, .starved, .working, .releasing, .holding],
      Takeable (asked (frame 0x000A 1 []) (jobAt [] .running (some ph))) (frame 0x000A 1 []) ∧ (jobAt [] .running (some ph)).job.state = .running ∧
      (jobAt [] .running (some ph)).test.running = false :=
  fun _ _ => ⟨takeable_asked _ _ rfl, rfl, rfl⟩

theorem witness_ResumeGoesOnByPhase :
    (let s := asked (frame 0x000B 1 [])
        { jobAt [slotOf .active entry1] .paused (some .positioning) with travel := ⟨3, some 640, .idle, 0, none, .stop⟩ }
     Takeable s (frame 0x000B 1 []) ∧ s.job.state = .paused ∧ s.travel.target = some 640) ∧
    (let s := asked (frame 0x000B 1 []) (jobAt [slotOf .done entry1] .paused none)
     Takeable s (frame 0x000B 1 []) ∧ s.travel.state = .idle ∧ s.travel.settle = none ∧ ∀ x ∈ s.queue.slots, x.state ≠ .ready) ∧
    (let s := asked (frame 0x000B 1 []) (jobAt [slotOf .ready entry1] .paused (some .starved))
     Takeable s (frame 0x000B 1 []) ∧ OldestReady s.queue 0 (slotOf .ready entry1) ∧ NoneWorking s.queue ∧ s.llu.state = .isOpen) :=
  ⟨⟨takeable_asked _ _ rfl, rfl, rfl⟩, ⟨takeable_asked _ _ rfl, by decide⟩, takeable_asked _ _ rfl,
    oldestReady_of_test (by decide), by unfold NoneWorking; decide, by decide⟩

/-- A halted job at park with a FAULTED slot, T standing at 640. -/
def haltedAt (e : Entry) (more : List Slot) : State :=
  { jobAt (slotOf .faulted e :: more) .halted none with travel := ⟨600, some 640, .idle, 0, none, .stop⟩ }

/-- A FAULTED slot with what its working had reached when the job halted. -/
def faulted1 : Slot :=
  { slotOf .faulted entry1 with
    copy := some corr1
    kept := some ⟨⟨⟨true, 2, 1, false, true, false⟩, .empty, .empty, .empty⟩, some ⟨⟨28, 312, 250, none⟩, false, true⟩⟩ }

theorem witness_RetryAndSkip :
    (∀ s ∈ [haltedAt entry1 [], haltedAt { entry1 with isEnd := true } [], haltedAt entry1 [slotOf .ready entry1],
        { haltedAt entry1 [] with job := { Job.atPowerOn with state := .halted, pausePending := true } },
        { haltedAt entry1 [] with queue := ⟨0, [faulted1]⟩ }],
      s.link = State.reset.link ∧ s.test.running = false ∧ s.job.state = .halted ∧ s.travel.target = some 640 ∧ s.travel.state = .idle ∧
      s.travel.settle = none) ∧
    (∀ f, Takeable (asked f (haltedAt entry1 [])) f) ∧ (haltedAt entry1 []).job.pausePending = false ∧
    AtPark (haltedAt entry1 []) ∧ OnlyWorking (haltedAt entry1 []).queue 0 (slotOf .faulted entry1) ∧
    OnlyWorking ⟨0, [faulted1]⟩ 0 faulted1 ∧
    OldestReady (haltedAt entry1 [slotOf .ready entry1]).queue 1 (slotOf .ready entry1) ∧
    (∀ y ∈ (haltedAt entry1 []).queue.slots, y.state ≠ .ready) ∧ (slotOf .faulted entry1).retries < 3 := by
  refine ⟨by decide +kernel, fun f => takeable_asked f _ rfl, by decide +kernel, ⟨forall_unit (by decide +kernel), by decide +kernel, rfl⟩, onlyWorking_of_test (by decide +kernel),
    onlyWorking_of_test (by decide +kernel), oldestReady_of_test (by decide +kernel), by decide +kernel, by decide +kernel⟩

/-- A SKIP ENTRY with no slot FAULTED, with and without a READY entry. -/
theorem witness_SkipGivesTheEntryUp :
    (∀ slots ∈ [[slotOf .done entry1], [slotOf .done entry1, slotOf .ready entry1]],
      let s := asked (frame 0x000D 1 []) (jobAt slots .halted none)
      Takeable s (frame 0x000D 1 []) ∧ s.test.running = false ∧ s.job.state = .halted ∧ NoneWorking s.queue ∧
      s.travel.state = .idle ∧ s.travel.settle = none) ∧
    AtPark (jobAt [slotOf .done entry1] .halted none) ∧ (∀ y ∈ [slotOf .done entry1], y.state ≠ .ready) ∧
    OldestReady ⟨0, [slotOf .done entry1, slotOf .ready entry1]⟩ 1 (slotOf .ready entry1) :=
  ⟨by unfold Takeable NoneWorking; decide +kernel, ⟨forall_unit (by decide +kernel), by decide +kernel, rfl⟩, by decide +kernel,
    oldestReady_of_test (by decide +kernel)⟩

/-- An entry at work: LO squeezing, the others at park, the LLU at demand. -/
def atWork1 : State :=
  { withUnit .lo (unitOn .squeezing (.squeeze 120) 7)
      (withLlu { lluIn .atDemand with demands := some demands1 } (jobAt [slotOf .active entry1] .running (some .working))) with
    job := { Job.atPowerOn with state := .running, phase := some .working, done := ⟨false, true, true, true⟩ } }

theorem witness_AbortEndsTheJob :
    Takeable (asked (frame 0x000E 1 []) atWork1) (frame 0x000E 1 []) ∧ atWork1.test.running = false ∧ atWork1.job.state ≠ .idle ∧ WorkheadSound atWork1 ∧
    OnlyWorking atWork1.queue 0 (slotOf .active entry1) ∧ NoneWorking (jobAt [] .running (some .starved)).queue ∧
    WorkheadSound (asked (frame 0x000E 1 []) atWork1) ∧ WorkheadSound (jobAt [] .running (some .starved)) ∧
    WorkheadSound { haltedAt entry1 [] with queue := ⟨0, [faulted1]⟩ } ∧ faulted1.kept.isSome = true ∧
    OnlyWorking ⟨0, [faulted1]⟩ 0 faulted1 ∧ atWork1.llu.reached = false :=
  ⟨takeable_asked _ _ rfl, by decide, by decide, workhead_of_test (by decide), onlyWorking_of_test (by decide),
    by unfold NoneWorking; decide, workhead_of_test (by decide), workhead_of_test (by decide), workhead_of_test (by decide), by decide,
    onlyWorking_of_test (by decide), by decide⟩

/-- After power-on with LI not at park. -/
def unhomed1 : State := withUnit .li (TUnit.atPowerOn false) State.reset

theorem witness_ParkAllOrdersTheRetreat :
    let s := asked (frame 0x000F 1 []) unhomed1
    Takeable s (frame 0x000F 1 []) ∧ s.test.running = false ∧ s.job.state = .idle ∧ WorkheadSound s :=
  ⟨takeable_asked _ _ rfl, by decide, by decide, workhead_of_test (by decide)⟩

theorem witness_ParametersAreClampedAndStored :
    ∀ b ∈ [nat32 0, nat32 (2 ^ 20) ++ nat16 6, nat32 (2 ^ 21 - 1) ++ (List.range 21).flatMap fun _ => nat16 65535],
      paramsFit b = true ∧ Takeable (asked (frame 0x0003 1 b) State.reset) (frame 0x0003 1 b) ∧ State.reset.job.state = .idle ∧
      State.reset.test.running = false := by
  intro b hb
  refine ⟨?_, takeable_asked _ _ rfl, rfl, rfl⟩
  revert b; decide +kernel

/-! ### Correction, table, trail -/

theorem witness_LiningShiftIsLimited :
    let r := correctionOf .default entry1 1 0 ⟨954, 0, 0, false, 0, 0, 0, 0⟩
    let q := correctionOf { Params.default with lineMax := 0 } entry1 1 0 ⟨12, 0, 0, false, 0, 0, 0, 0⟩
    (800 : Int) < ((954 - r.d + r.rl).natAbs : Int) ∧
    (((812 - r.d + r.rl).natAbs : Int) ≤ 800) ∧ (12 - q.d + q.rl = 0) := by decide +kernel

theorem witness_DemandsStayWithinLimits : { entry1 with hook := true }.hook = true ∧ entry1.hook = false := by decide

theorem witness_DivisionRoundsHalfAway : (0 : Int) < 20000 ∧ 2 * (divRound 50000 20000 * 20000 - 50000).natAbs = 20000 := by decide

/-- The end of the positioning of `entry1` at 640 mm, its channels VALID. -/
def resting : State :=
  { withChannels (channelsAt 4 5 6) (jobAt [slotOf .active entry1] .running (some .positioning)) with
    travel := ⟨655, some 640, .stopping, 0, some 250, .stop⟩
    units := ⟨unitIn .set, { unitIn .shifting with waiting := true }, unitIn .set, unitIn .set⟩ }

theorem witness_InPositionOrdersTheWork :
    resting.travel.state = .stopping ∧ resting.travel.settle.isSome = true ∧ resting.travel.target = some 640 ∧
    (resting.travel.p - 640).natAbs ≤ resting.params.posTolerance ∧ resting.job.state = .running ∧
    resting.job.phase = some .positioning ∧ OnlyWorking resting.queue 0 (slotOf .active entry1) ∧ resting.engine = .noRecord ∧
    resting.llu.state = .isOpen ∧ NoRetreat resting ∧
    (∀ ch ∈ [Channel.line, levelChannel resting.params.grade, .cant], (resting.meas.channels.get ch).state ≠ .lost) ∧
    resting.params.mode = .localMode ∧
    (let t : State := { resting with params := .default, table := curveTable, travel := { resting.travel with p := 152300 } }
     t.params.mode = .design ∧ t.table.lookup t.travel.p = some (5263, 950)) :=
  ⟨by decide, by decide, by decide, by decide, by decide, by decide, onlyWorking_of_test (by decide), by decide, by decide,
    noRetreat_of (by decide), by decide, by decide, by decide +kernel⟩

theorem witness_FailedComputationHalts :
    WorkheadSound resting ∧ (slotOf .active entry1).state = .active ∧
    (let s : State := withChannels Measurement.initial.channels resting
     WorkheadSound s ∧ ∃ ch ∈ [Channel.line, levelChannel s.params.grade, .cant], (s.meas.channels.get ch).state = .lost) ∧
    (let s : State := { resting with params := .default, table := curveTable }
     WorkheadSound s ∧ s.params.mode = .design ∧ s.table.lookup s.travel.p = none) :=
  ⟨workhead_of_test (by decide), by decide, ⟨workhead_of_test (by decide), by decide⟩, workhead_of_test (by decide), by decide,
    by decide +kernel⟩

theorem witness_LookupInterpolatesInItsSegment :
    curveTable.Sound ∧ curveTable.state = .valid ∧ curveTable.lookup 120000 = some (0, 0) ∧ DesignTable.empty.state ≠ .valid := by
  refine ⟨⟨by decide, by decide, by simp [curveTable], ?_, ?_, by simp [curveTable], ?_⟩, by decide, by decide +kernel, by decide⟩
  · intro i g h
    have hi : i < 4 := (List.getElem?_eq_some_iff.mp h).1
    interval_cases i <;> (simp only [curveTable] at h; cases h; exact ⟨rfl, by unfold Segment.Fits; decide⟩)
  · intro i g g' h h'
    have hi : i + 1 < 4 := (List.getElem?_eq_some_iff.mp h').1
    have : i < 3 := by omega
    interval_cases i <;> (simp only [curveTable] at h h'; cases h; cases h'; decide)
  · intro _; decide

theorem witness_TableLoadsSegmentBySegment :
    (∀ k ∈ [0x0010, 0x0011, 0x0012], ∀ b, Takeable (asked (frame k 1 b) loading1) (frame k 1 b)) ∧ loading1.test.running = false ∧
    (jobAt [] .running none).job.state ≠ .idle ∧ ({ jobAt [] .running none with params := .default } : State).params.mode = .design ∧
    (1 ≤ (1 : Byte).toNat ∧ (128 : Byte).toNat ≤ 128) ∧ ¬ ((129 : Byte).toNat ≤ 128) ∧
    (let g := decodeSegment (segmentBytes ⟨1, .transition, 120000, 30000, 0, 5263, 0, 950⟩)
     (segmentBytes ⟨1, .transition, 120000, 30000, 0, 5263, 0, 950⟩).length = 18 ∧
     g.stored = some ⟨1, .transition, 120000, 30000, 0, 5263, 0, 950⟩ ∧
     (⟨1, .transition, 120000, 30000, 0, 5263, 0, 950⟩ : Segment).Fits ∧ loading1.table.state = .loading ∧
     g.index = loading1.table.segments.length ∧ g.index < loading1.table.count ∧
     loading1.table.segments[g.index - 1]? = some ⟨0, .straight, 100000, 20000, 0, 0, 0, 0⟩ ∧ g.start = 100000 + 20000) ∧
    (let g := decodeSegment (segmentBytes ⟨1, .transition, 121000, 30000, 0, 5263, 0, 950⟩)
     0 < g.index ∧ g.start ≠ 100000 + 20000) ∧ State.reset.table.state ≠ .loading ∧ loading1.table.declared = some (4, 0) := by
  refine ⟨fun _ _ _ => takeable_asked _ _ rfl, rfl, ?_⟩
  unfold Segment.Fits; decide +kernel

theorem witness_TrailStatements :
    trailAfter.Sound ∧ trailAfter.records.head? = some ⟨1780, some 2, some 0⟩ ∧ (1000 : Int) < 1780 ∧
    trailAfter.records.getLast? = some ⟨4861, some 3, some 1⟩ ∧
    trailAfter.records[4]? = some ⟨4255, some 5, some 0⟩ ∧ trailAfter.records[5]? = some ⟨4861, some 3, some 1⟩ ∧
    ((List.range 32).map fun n => (⟨n, some 0, some 0⟩ : TrailRecord)).length + 1 = 33 := by
  refine ⟨?_, by decide⟩
  refine ⟨by decide, by decide, by simp [trailAfter, trail5], ?_⟩
  simp [trailAfter, trail5]

/-- One bad sample short of LOST, with the LLU at work: the channel `ch` is HELD with the count 5, and the hook is engaged. -/
def nearlyLost (x : Llu) (ch : Channel) : State :=
  let r : Channel → ChannelRec := fun c => if c = ch then ⟨.held, 5, some 7⟩ else ⟨.valid, 0, some 7⟩
  withChannels
    ⟨r .line, r .levelL, r .levelR, r .cant, r .hook, ⟨r (.press .lo), r (.press .li), r (.press .ri), r (.press .ro)⟩⟩
    (withLlu { x with demands := some ⟨30, 319, 257, some (20, .left)⟩ } (jobAt [slotOf .active entry1] .running (some .working)))

/-- A halt during the lifting: LI is still going up to park, and the LLU stays LIFTING under the retreat mark. -/
def liftingBack : State :=
  { withUnit .li { unitOn .retreating .raisePark 5 with retreat := true }
      (withLlu
        { lluIn .lifting with
          retreat := true, demands := some demands1, baseline := some ⟨2184, 212, 1012, none⟩, achieved := some ⟨0, 0, 0, none⟩ }
        (jobAt [slotOf .faulted entry1] .halted none)) with
    arb := { Arbiter.atPowerOn false with granted := [.unit .li], retreatMode := true } }

/-- R148, R158: under the retreat mark a sample forms the achieved values, and one at the demand makes no arrival. R87, R144: with a
channel LOST, or no baseline, they stay (log entry 37). -/
theorem test_retreating_llu_forms_its_values :
    (after (.sampleArrival (sampleOf 2212 (-100) 950)) liftingBack).llu =
      { liftingBack.llu with achieved := some ⟨28, 312, 250, none⟩ } ∧
    (after (.sampleArrival missedSample) liftingBack).llu = liftingBack.llu ∧
    (after (.sampleArrival (sampleOf 2212 (-100) 950))
      (withLlu { liftingBack.llu with baseline := none, achieved := none } liftingBack)).llu.achieved = none := by
  decide +kernel

theorem witness_SamplesMoveTheChannels :
    State.reset.meas.timer.isSome = true ∧ State.reset.llu.state ≠ .clamping ∧ State.reset.llu.state ≠ .lifting ∧
    State.reset.llu.state ≠ .settling ∧ NoRetreat State.reset ∧ DriveSound State.reset ∧ State.reset.test.running = false ∧
    (⟨.held, 5, some 7⟩ : ChannelRec).Sound .line ∧ (⟨.held, 4, some 7⟩ : ChannelRec).Sound .line ∧
    (⟨.valid, 0, some 30000⟩ : ChannelRec).Sound .line ∧ ChannelRec.lostEmpty.Sound .line ∧
    (∀ x ∈ [lluOn .clamping (.clamp (some .left)) 3, lifting19], ∀ ch ∈ [Channel.line, .levelL, .cant, .hook],
      let s := nearlyLost x ch
      WorkheadSound s ∧ s.LiftsBy ch ∧ (s.meas.channels.get ch).state ≠ .lost ∧ s.llu.retreat = false ∧ s.test.running = false ∧
      s.meas.timer.isSome = true ∧ ((after (.sampleArrival missedSample) s).meas.channels.get ch).state = .lost ∧
      ((after .sampleTimerExpiry s).meas.channels.get ch).state = .lost) ∧
    (liftingBack.llu.state = .lifting ∧ liftingBack.llu.retreat = true ∧ liftingBack.test.running = false ∧
      liftingBack.meas.timer.isSome = true ∧ liftingBack.llu.baseline.isSome = true) := by
  refine ⟨by decide, by decide, by decide, by decide, noRetreat_of (by decide), ?_, by decide, ?_⟩
  · show State.reset.travel.drive = State.reset.driveDue; decide
  refine ⟨by simp [ChannelRec.Sound, channelRange], by simp [ChannelRec.Sound, channelRange],
    by simp [ChannelRec.Sound, channelRange], by simp [ChannelRec.Sound, ChannelRec.lostEmpty], ?_, by decide⟩
  intro x hx ch hch
  simp only [List.mem_cons, List.not_mem_nil, or_false] at hx hch
  rcases hx with rfl | rfl <;> rcases hch with rfl | rfl | rfl | rfl <;>
    refine ⟨workhead_of_test (by decide), ?_, by decide, by decide, by decide, by decide, by decide +kernel, by decide +kernel⟩
  all_goals simp [State.LiftsBy, nearlyLost, withLlu, withChannels, jobAt, levelChannel, Params.default]

/-! ### Travel -/

theorem witness_CreepAndReverse :
    (∀ st ∈ [PosState.creep, .reversing, .fast, .stopping, .inPosition, .idle],
      (travelAt 583 st 0 none .stop).travel.state = st ∧ (travelAt 583 st 0 none .stop).travel.target = some 640 ∧
      NoRetreat (travelAt 583 st 0 none .stop)) ∧
    ((640 : Int) - 15 ≤ 583 + 42 ∧ 583 + 41 < (640 : Int) - 15) ∧ ((660 : Int) - 5 ≤ 640 + 15 ∧ 640 + 15 < (660 : Int) - 4) ∧
    ((-50000 : Int) ≤ -50000 + 0 ∧ (4000000 : Int) + 0 ≤ 4000000) := by
  unfold NoRetreat; decide +kernel

theorem witness_StepsAreCountedAndTested :
    DriveSound (travelAt 300 .idle 0 none .stop) ∧ DriveSound (travelAt 655 .inPosition 0 none .stop) ∧
    DriveSound (travelAt 655 .stopping 0 (some 1) .stop) ∧ DriveSound (travelAt 300 .fast 0 none .forwardFast) ∧
    WorkheadSound (travelAt 655 .inPosition 0 none .stop) ∧ (15 : Nat) < ((655 : Int) + 1 - 640).natAbs ∧
    WorkheadSound (travelAt (-50000) .fast 0 none .forwardFast) ∧ (-50000 : Int) + -1 < -50000 ∧ (4000000 : Int) < 4000000 + 1 ∧
    State.reset.job.state ≠ .running := by
  refine ⟨?_, ?_, ?_, ?_, workhead_of_test (by decide), by decide, workhead_of_test (by decide), by decide, by decide, by decide⟩ <;>
    · unfold DriveSound; decide

theorem witness_RestIsJudgedAgainstTheTarget :
    (let s := travelAt 656 .stopping 1 (some 250) .stop
     s.travel.settle.isSome = true ∧ (640 : Int) + s.params.posTolerance < s.travel.p ∧
     s.travel.reversals + 1 ≤ s.params.overshootLimit ∧ NoRetreat s) ∧
    (let s := travelAt 656 .stopping 2 (some 250) .stop
     s.params.overshootLimit < s.travel.reversals + 1 ∧ WorkheadSound s) ∧
    (let s := travelAt 624 .stopping 0 (some 250) .stop
     s.travel.p < (640 : Int) - s.params.posTolerance ∧ NoRetreat s) :=
  ⟨by unfold NoRetreat; decide, ⟨by decide, workhead_of_test (by decide)⟩, by unfold NoRetreat; decide⟩

/-! ### Units and LLU -/

def granted1 (r : Requester) (s : State) : State := { s with arb := { s.arb with granted := [r] } }

/-- An arbiter that may grant, with units and the LLU waiting: LI is next in the cycle after LO, and the LLU goes first, or last in
the retreat mode. -/
def choosing (retreat : Bool) : Arbiter := ⟨3, none, [.unit .lo], [.unit .ro, .llu, .unit .li], some .lo, retreat, false⟩

theorem witness_ArbitersChoice :
    (choosing false).MayGrant ∧ (choosing true).MayGrant ∧ (choosing false).Chooses .llu ∧ (choosing true).Chooses (.unit .li) ∧
    ¬ ({ choosing false with granted := [.unit .lo, .unit .ri, .llu] } : Arbiter).MayGrant ∧
    ¬ ({ choosing false with pendingN := some 2 } : Arbiter).MayGrant ∧ ¬ ({ choosing false with stopMark := true } : Arbiter).MayGrant ∧
    Requester.unit .lo ∈ (choosing false).granted ∧ Requester.llu ∈ (choosing false).waiting ∧
    Requester.unit .ri ∉ (choosing false).granted ∧ Requester.unit .ri ∉ (choosing false).waiting := by
  refine ⟨by unfold Arbiter.MayGrant; decide, by unfold Arbiter.MayGrant; decide, ⟨by decide, by simp [choosing]⟩,
    ⟨by decide, by decide, forall_unit (by decide)⟩, ?_⟩
  unfold Arbiter.MayGrant; decide

theorem test_arbiters_choice :
    (choosing false).grant = ⟨3, none, [.unit .lo, .llu, .unit .li], [.unit .ro], some .li, false, false⟩ ∧
    (choosing true).grant = ⟨3, none, [.unit .lo, .unit .li, .unit .ro], [.llu], some .ro, true, false⟩ := by decide +kernel

theorem witness_GrantsIssueTheOrder :
    (∀ st ∈ [UnitState.shifting, .lowering, .liftingOut, .raising, .retreating],
      let s := granted1 (.unit .ri) (riAt { unitIn st with waiting := true, orderNo := 255 })
      (s.unit .ri).waiting = true ∧ Requester.unit .ri ∈ s.arb.granted ∧ s.arb.retreatMode = false ∧ (s.unit .ri).orderNo ≤ 255) ∧
    (riAt { unitIn .shifting with waiting := true, orderNo := 255 }).units.ri.Shaped ∧
    (unitIn .shifting).MotionOrder .default (.shift 120 15) 3000 ∧ (unitIn .lowering).MotionOrder .default (.lower 560) 1500 ∧
    (unitIn .liftingOut).MotionOrder .default .raiseMid 2500 ∧ (unitIn .raising).MotionOrder .default .raisePark 2500 ∧
    (unitIn .retreating).MotionOrder .default .raisePark 2500 ∧
    ((unitIn .set).waiting = false ∧ (unitIn .set).order = none ∧ NoRetreat (riAt (unitIn .set))) ∧
    (let s := granted1 .llu (lluAt { lluIn .clamping with waiting := true, orderNo := 255 })
     s.llu.Shaped ∧ s.llu.waiting = true ∧ Requester.llu ∈ s.arb.granted ∧ s.llu.state = .clamping ∧ NoRetreat s ∧
     s.llu.demands = some demands1) ∧
    (let s := granted1 .llu (lluAt { lluIn .releasing with waiting := true })
     s.llu.Shaped ∧ s.llu.waiting = true ∧ Requester.llu ∈ s.arb.granted ∧ s.llu.state = .releasing) ∧
    (State.reset.llu.waiting = false ∧ State.reset.llu.order = none) := by
  refine ⟨by decide, TUnit.shaped_of_test (by decide), ?_, ?_, ?_, ?_, ?_, ⟨by decide, by decide, noRetreat_of (by decide)⟩,
    ⟨Llu.shaped_of_test (by decide), by decide, by decide, by decide, noRetreat_of (by decide), by decide⟩,
    ⟨Llu.shaped_of_test (by decide), by decide, by decide, by decide⟩, by decide⟩ <;>
    simp [TUnit.MotionOrder, unitIn, set1, Params.default, TUnit.atPowerOn]

/-- The chain's second entry with RI the last unit to become SET, and LO done. -/
def chain1 : State :=
  { riAt (unitOn .shifting (.shift 120 15) 3) with
    job := { Job.atPowerOn with state := .running, phase := some .holding, done := ⟨true, false, false, false⟩ }
    llu := lluIn .holding, units := ⟨.atPowerOn true, unitIn .set, unitOn .shifting (.shift 120 15) 3, unitIn .set⟩ }

/-- RI on its way to park, the others done, and the LLU still lifting. -/
def lastBeforeDemand : State :=
  { withUnit .ri (unitOn .raising .raisePark 9) (lluAt lifting19) with
    units := ⟨.atPowerOn true, .atPowerOn true, unitOn .raising .raisePark 9, .atPowerOn true⟩
    job := { Job.atPowerOn with state := .running, phase := some .working, done := ⟨true, true, false, true⟩ } }

theorem witness_CompletionsMoveTheUnitOn :
    (∀ x ∈ [unitOn .shifting (.shift 120 15) 255, { unitOn .shifting (.shift 120 15) 0 with workOrdered := true },
        unitOn .lowering (.lower 560) 1, unitOn .opening .opens 1, { unitOn .opening .opens 1 with retreat := true },
        { unitOn .opening .opens 1 with insertion := 2 }, unitOn .liftingOut .raiseMid 1, unitOn .raising .raisePark 1,
        unitOn .retreating .raisePark 1],
      NoRetreat (riAt x) ∧ x.settings = some set1 ∧ @decide _ x.decideShaped = true) ∧
    (chain1.unit .ri).workOrdered = false ∧ (chain1.unit .ri).result.used = true ∧ chain1.job.phase = some .holding ∧
    (∃ y ∈ chain1.queue.slots, y.state = .active) ∧
    (∀ v ∈ [UnitId.lo, .li, .ro], (chain1.job.done.get v = true ∧ (chain1.unit v).state = .parked) ∨
      ((chain1.unit v).state = .set ∧ (chain1.unit v).result.used = true ∧ (chain1.unit v).workOrdered = false)) ∧
    (withLlu (lluIn .atDemand) (riAt (unitOn .lowering (.lower 560) 1))).llu.state = .atDemand ∧
    (∃ v ∈ [UnitId.lo, .li, .ro], v ≠ .ri ∧ (riAt (unitOn .raising .raisePark 1)).job.done.get v = false) ∧
    (lastBeforeDemand.unit .ri).order = some (.raisePark, 9) ∧ lastBeforeDemand.job.done = ⟨true, true, false, true⟩ ∧
    lastBeforeDemand.llu.state = .lifting ∧ NoRetreat lastBeforeDemand ∧
    (∀ o ∈ [UnitOrder.lower 560, .opens, .raisePark], ((riAt (unitOn .liftingOut .raiseMid 43)).unit .ri).order ≠ some (o, 43)) ∧
    ((riAt (unitOn .liftingOut .raiseMid 43)).unit .ri).order ≠ some (.raiseMid, 42) := by
  unfold NoRetreat; decide +kernel

/-- R31: the last unit parks while the LLU still lifts, and the work of the entry goes on. R121: a completion with an old number
or of another kind is ignored. -/
theorem test_last_unit_before_demand :
    (after (.atPark .ri 9) lastBeforeDemand).job.done = ⟨true, true, true, true⟩ ∧
    (after (.atPark .ri 9) lastBeforeDemand).job.phase = some .working ∧
    (after (.atPark .ri 8) lastBeforeDemand) = lastBeforeDemand ∧ (after (.atMid .ri 9) lastBeforeDemand) = lastBeforeDemand := by
  decide +kernel

/-- The last unit of an entry rises to park, with the LLU at demand and T at 640. -/
def lastUp (e : Entry) (more : List Slot) : State :=
  { withUnit .ri (unitOn .raising .raisePark 9)
      (withLlu { lluIn .atDemand with demands := some demands1 } (jobAt (slotOf .active e :: more) .running (some .working))) with
    job := { Job.atPowerOn with state := .running, phase := some .working, done := ⟨true, true, false, true⟩ }
    travel := ⟨641, some 640, .inPosition, 0, none, .stop⟩
    engine := .working ⟨641, 0, 0, 0, .left, 30, 319, 257, none, none, noFlags⟩ }

theorem witness_LastUnitEndsTheWork :
    (∀ s ∈ [lastUp entry1 [], lastUp { entry1 with joinedNext := true } [],
        lastUp { entry1 with joinedNext := true } [slotOf .ready { entry1 with distance := 0 }],
        lastUp { entry1 with joinedNext := true } [slotOf .ready (unused true), slotOf .ready (unused false)]],
      (s.unit .ri).state = .raising ∧ (s.unit .ri).order = some (.raisePark, 9) ∧ s.job.state = .running ∧
      s.job.phase = some .working ∧ s.llu.state = .atDemand ∧ (∀ v ∈ [UnitId.lo, .li, .ro], s.job.done.get v = true) ∧
      s.arb.retreatMode = false ∧ s.llu.retreat = false ∧ s.travel.target = some 640 ∧
      @decide _ (s.unit .ri).decideShaped = true) ∧
    OnlyWorking (lastUp entry1 []).queue 0 (slotOf .active entry1) ∧
    (∀ y ∈ (lastUp { entry1 with joinedNext := true } []).queue.slots, y.state ≠ .ready) ∧
    (∃ c, (lastUp entry1 []).engine = .working c) ∧ entry1.isEnd = false ∧ (unused true).isEnd = false ∧
    (unused true).units.map (·.mask) = ⟨0, 0, 0, 0⟩ ∧
    OldestReady (lastUp { entry1 with joinedNext := true } [slotOf .ready (unused true), slotOf .ready (unused false)]).queue 1
      (slotOf .ready (unused true)) ∧
    OldestReady (lastUp { entry1 with joinedNext := true } [slotOf .ready { entry1 with distance := 0 }]).queue 1
      (slotOf .ready { entry1 with distance := 0 }) :=
  ⟨by decide +kernel, onlyWorking_of_test (by decide), by decide, ⟨_, rfl⟩, by decide, by decide, by decide,
    oldestReady_of_test (by decide), oldestReady_of_test (by decide)⟩

/-- R29, R31: behind the hold the continuation without used units ends its own work, which activates the next one; that one carries
no JOINED_NEXT, and its work ends with the release. -/
theorem test_work_without_used_units :
    let t := after (.atPark .ri 9) (lastUp { entry1 with joinedNext := true } [slotOf .ready (unused true), slotOf .ready (unused false)])
    t.queue.slots.map (·.state) = [.done, .done, .active] ∧ t.llu.state = .releasing ∧ t.job.phase = some .releasing := by
  decide +kernel

/-- One unit with an order while its entry is at work. -/
def working1 (x : TUnit) : State :=
  { riAt x with job := { Job.atPowerOn with state := .running, phase := some .working, done := ⟨true, true, false, true⟩ } }

theorem witness_TimeoutsMakeStuck :
    (∀ x ∈ [unitOn .shifting (.shift 120 15) 1, unitOn .opening .opens 1, unitOn .liftingOut .raiseMid 1,
        unitOn .raising .raisePark 1, unitOn .retreating .raisePark 1, unitOn .lowering (.lower 560) 1],
      WorkheadSound (working1 x) ∧ (working1 x).unit .ri = x) ∧
    (∀ x ∈ [lluOn .clamping (.clamp none) 255, lluOn .releasing .unclamp 0], WorkheadSound (withLlu x State.reset)) := by
  refine ⟨?_, ?_⟩
  · intro x hx
    simp only [List.mem_cons, List.not_mem_nil, or_false] at hx
    rcases hx with rfl | rfl | rfl | rfl | rfl | rfl <;> exact ⟨workhead_of_test (by decide), rfl⟩
  · intro x hx
    simp only [List.mem_cons, List.not_mem_nil, or_false] at hx
    rcases hx with rfl | rfl <;> exact workhead_of_test (by decide)

theorem witness_InsertionRetriesOrIsBlocked :
    (let s := working1 (unitOn .lowering (.lower 560) 42)
     (s.unit .ri).state = .lowering ∧ (s.unit .ri).order = some (.lower 560, 42) ∧
     (s.unit .ri).retries < s.params.insertionRetries ∧ NoRetreat s) ∧
    (let s := working1 { unitOn .lowering (.lower 560) 42 with retries := 2 }
     s.params.insertionRetries ≤ (s.unit .ri).retries ∧ s.params.policy = .halt ∧ WorkheadSound s ∧ (s.unit .ri).Shaped) ∧
    ({ Params.default with policy := .goOn } : Params).policy = .goOn :=
  ⟨⟨by decide, by decide, by decide, noRetreat_of (by decide)⟩,
    ⟨by decide, by decide, workhead_of_test (by decide), TUnit.shaped_of_test (by decide)⟩, by decide⟩

theorem witness_SqueezeIsJudgedAndOpens :
    (∀ bar ∈ [(107 : Int), 108],
      let s := pressed bar (unitOn .squeezing (.squeeze 120) 45)
      (s.unit .ri).state = .squeezing ∧ (s.unit .ri).timer.isSome = true ∧ (s.unit .ri).settings = some set1 ∧ NoRetreat s) ∧
    (unitOn .squeezing (.squeeze 120) 45).Shaped :=
  ⟨by unfold NoRetreat; decide, TUnit.shaped_of_test (by decide)⟩

theorem witness_LluEventsGoOn :
    (let s := withChannels (channelsAt 2184 212 1012) (lluAt (lluOn .clamping (.clamp none) 18))
     s.llu.Shaped ∧ s.llu.state = .clamping ∧ s.llu.order = some (.clamp none, 18) ∧ s.llu.demands = some demands1 ∧
     s.llu.hookEngaged = demands1.hook.isSome ∧ s.llu.retreat = false ∧ NoRetreat s ∧
     (∀ ch ∈ [Channel.line, levelChannel s.params.grade, .cant], (s.meas.channels.get ch).state ≠ .lost)) ∧
    (let s := withLlu { lluOn .clamping (.clamp none) 18 with demands := some demands1 } State.reset
     WorkheadSound s ∧ ∃ ch ∈ [Channel.line, levelChannel s.params.grade, .cant], (s.meas.channels.get ch).state = .lost) ∧
    (let s := lluAt (lluOn .releasing .unclamp 20)
     s.llu.Shaped ∧ s.llu.state = .releasing ∧ s.llu.order = some (.unclamp, 20) ∧ NoRetreat s) ∧
    (let s := lluAt { lluOn .releasing .unclamp 20 with retreat := true }
     s.llu.Shaped ∧ s.llu.retreat = true) ∧
    (let s := lluAt { lluIn .holding with joinHold := some 20000 }
     s.llu.state = .holding ∧ s.llu.joinHold.isSome = true ∧ NoRetreat s) ∧
    ({ lluIn .settling with settle := some 250 } : Llu).settle.isSome = true :=
  ⟨⟨Llu.shaped_of_test (by decide), by decide, by decide, by decide, by decide, by decide, noRetreat_of (by decide), by decide⟩,
    ⟨workhead_of_test (by decide), by decide⟩,
    ⟨Llu.shaped_of_test (by decide), by decide, by decide, noRetreat_of (by decide)⟩,
    ⟨Llu.shaped_of_test (by decide), by decide⟩, ⟨by decide, by decide, noRetreat_of (by decide)⟩, by decide⟩

/-- A sample of which every value the LLU may lift by is good. -/
def goodSample : Channels Reading := { sampleOf 2212 (-100) 950 with hook := ⟨0, true⟩ }

theorem witness_LiftingEndsAtDemand :
    let s := withUnit .lo (unitIn .inserted) (lluAt lifting19)
    s.llu.state = .lifting ∧ NoRetreat s ∧ InsertedHaveSettings s ∧ (∀ u, (s.unit u).Shaped) ∧ (∃ u, s.job.done.get u = false) ∧
    s.llu.order = some (.liftLine 30 319 257 none, 19) ∧ s.llu.timer.isSome = true ∧ s.test.running = false ∧
    s.llu.demands = some demands1 ∧ s.llu.baseline = some ⟨2184, 212, 1012, none⟩ ∧
    (∀ ch ∈ [Channel.line, levelChannel s.params.grade, .cant, .hook],
      (goodSample.get ch).valid = true ∧ (channelRange ch).1 ≤ (goodSample.get ch).value ∧
      (goodSample.get ch).value ≤ (channelRange ch).2) ∧
    (let s := { withUnit .ri (unitIn .parked) (lluAt lifting19) with
        job := { Job.atPowerOn with state := .running, phase := some .working, done := ⟨true, true, true, true⟩ }
        travel := ⟨641, some 640, .inPosition, 0, none, .stop⟩ }
     (∀ u, s.job.done.get u = true) ∧ (∀ u, (s.unit u).state = .parked) ∧ s.job.state = .running ∧ s.job.phase = some .working ∧
     OnlyWorking s.queue 0 (slotOf .active entry1) ∧ s.llu.state = .lifting ∧ NoRetreat s ∧ s.travel.target = some 640 ∧
     (after .liftTimerExpiry s).llu.state = .releasing) ∧
    (⟨28, 312, 250, none⟩ : Achieved).Meets demands1 10 ∧ ¬ (⟨41, 319, 257, none⟩ : Achieved).Meets demands1 10 := by
  refine ⟨by decide, noRetreat_of (by decide), forall_unit (by decide),
    forall_unit ⟨TUnit.shaped_of_test (by decide), TUnit.shaped_of_test (by decide), TUnit.shaped_of_test (by decide),
      TUnit.shaped_of_test (by decide)⟩, ⟨.lo, by decide⟩, by decide, by decide, by decide, by decide, by decide, by decide,
    ⟨forall_unit (by decide), forall_unit (by decide), by decide, by decide, onlyWorking_of_test (by decide), by decide,
      noRetreat_of (by decide), by decide, by decide +kernel⟩, ?_, ?_⟩ <;>
    simp [Achieved.Meets, demands1]

/-- `settling1` with other slots, T at 640. -/
def settlingWith (e : Entry) (more : List Slot) (pause : Bool) : State :=
  { settling1 with
    queue := ⟨0, slotOf .active e :: more⟩, job := { settling1.job with pausePending := pause }
    travel := ⟨641, some 640, .inPosition, 0, none, .stop⟩ }

/-- The release behind a chain with no entry active: the last entry of the chain stands finished, its residual to come. -/
def heldRelease (more : List Slot) (pause : Bool) : State :=
  { settlingWith entry1 more pause with
    queue := ⟨0, { slotOf .done { entry1 with joinedNext := true } with
      result := some (resultOf 0 (slotOf .active entry1) ⟨⟨.empty, .empty, .empty, .empty⟩, none⟩ .done none false none) } :: more⟩ }

theorem witness_ResidualEndsTheEntry :
    (∀ s ∈ [settlingWith entry1 [] false, settlingWith { entry1 with isEnd := true } [] false, settlingWith entry1 [] true,
        settlingWith entry1 [slotOf .ready entry1] false, heldRelease [] false, heldRelease [] true,
        heldRelease [slotOf .ready { entry1 with number := 2 }] false],
      s.llu.state = .settling ∧ s.llu.settle = none ∧ s.engine = .closing corr1 ∧ s.arb.retreatMode = false ∧
      s.llu.retreat = false ∧ s.test.running = false ∧ s.job.state = .running ∧ s.job.phase = some .releasing ∧
      s.travel.target = some 640) ∧
    OnlyWorking (settlingWith entry1 [] false).queue 0 (slotOf .active entry1) ∧
    OldestReady (settlingWith entry1 [slotOf .ready entry1] false).queue 1 (slotOf .ready entry1) ∧
    residualOf corr1 (takeSample settling1.meas.channels (sampleOf 2212 (-82) 950)) = some (-2, 5) ∧
    residualOf corr1 (takeSample settling1.meas.channels missedSample) = none ∧
    (({ lluIn .settling with count := 3 } : Llu).count + 1 < 5 ∧ 5 ≤ ({ lluIn .settling with count := 4 } : Llu).count + 1) ∧
    (∀ s ∈ [heldRelease [] false, heldRelease [] true, heldRelease [slotOf .ready { entry1 with number := 2 }] false],
      NoneWorking s.queue ∧ ∃ x ∈ s.queue.slots, s.queue.slots[0]? = some x ∧ x.state.finished = true ∧ x.result.isSome = true ∧
        ∀ y ∈ s.queue.slots.drop 1, y.state.finished = false) ∧
    (heldRelease [] true).job.pausePending = true ∧
    OldestReady (heldRelease [slotOf .ready { entry1 with number := 2 }] false).queue 1 (slotOf .ready { entry1 with number := 2 }) :=
  ⟨by decide +kernel, onlyWorking_of_test (by decide), oldestReady_of_test (by decide), by decide +kernel, by decide +kernel,
    by decide, by unfold NoneWorking; decide +kernel, by decide, oldestReady_of_test (by decide)⟩

/-- R34: the residual goes into the held entry's result, and the job goes on as R32 says. -/
theorem test_residual_of_the_held_entry :
    (after (.sampleArrival (sampleOf 2212 (-82) 950)) (heldRelease [] true)).queue.slots.map (·.result.bind (·.residual)) =
      [some (-2, 5)] ∧
    (after (.sampleArrival (sampleOf 2212 (-82) 950)) (heldRelease [] true)).job.state = .paused ∧
    (after (.sampleArrival (sampleOf 2212 (-82) 950)) (heldRelease [slotOf .ready { entry1 with number := 2 }] false)).job.phase =
      some .positioning := by decide +kernel

theorem witness_StopLineHoldsAndFrees :
    WorkheadSound atWork1 ∧ atWork1.field.stopLine = false ∧ WorkheadSound item5 ∧ item5.test.running = true ∧
    ({ item5.test with item := (1, 3) } : SelfTest).restOrders = [.valveRest (.lowering .ri)] ∧
    (let s : State := { withUnit .lo { unitIn .held with tinesClosed := true } (withLlu (lluIn .held) State.reset) with
        field := ⟨true, []⟩ }
     WorkheadSound s ∧ s.field.stopLine = true) :=
  ⟨workhead_of_test (by decide), by decide, workhead_of_test (by decide), by decide, by decide, workhead_of_test (by decide), by decide⟩

/-! ### Self-test and restart -/

theorem witness_SelfTestRunsItsItems :
    (∀ g i, Takeable (asked (frame 0x0016 1 [g, i]) State.reset) (frame 0x0016 1 [g, i])) ∧ AtPark State.reset ∧
    (item5.test.item = (2, 5) ∧ (5, Channel.hook) ∈ testChannels ∧ item5.llu.state = .isOpen ∧ NoRetreat item5 ∧
      (after (.sampleArrival { missedSample with hook := ⟨9, true⟩ }) item5).test.seenGood = true) ∧
    (∀ gi ∈ [((0 : Byte), (0 : Byte)), (1, 6), (2, 0), (3, 2)],
      testItems.filter (fun x =>
        (gi.1.toNat == 0 && gi.2.toNat == 0) || (x.1 == gi.1.toNat && (gi.2.toNat == 0 || x.2 == gi.2.toNat))) ≠ []) ∧
    item5.test.running = true ∧ item5.test.timer.isSome = true ∧ DriveSound item5 ∧
    (let x : SelfTest := { item5.test with item := (1, 3), readback := some 570 }
     x.Passes ∧ item5.test.rest = [(2, 6), (2, 7), (2, 8), (2, 9)] ∧ (2, 6) ∈ testItems) ∧
    ({ item5.test with item := (1, 3), readback := some 631 } : SelfTest).Fails ⟨1, 3, .readback, 631, 600⟩ ∧
    ({ item5.test with item := (1, 3), readback := none } : SelfTest).Fails ⟨1, 3, .noReadback, 0, 600⟩ ∧
    item5.test.Fails ⟨2, 5, .noSample, 0, 1⟩ ∧ ({ item5.test with item := (3, 1) } : SelfTest).item.1 = 3 := by
  refine ⟨fun _ _ => takeable_asked _ _ rfl, ⟨forall_unit (by decide), by decide, rfl⟩,
    ⟨by decide, by decide, by decide, noRetreat_of (by decide), by decide +kernel⟩, ?_, by decide, by decide, ?_,
    ⟨?_, by decide, by decide⟩, ?_, ?_, ?_, by decide⟩
  · intro gi h
    simp only [List.mem_cons, List.not_mem_nil, or_false] at h
    rcases h with rfl | rfl | rfl | rfl <;> simp [testItems]
  · show item5.travel.drive = item5.driveDue; decide
  · exact .inl ⟨rfl, 570, rfl, by decide, by decide⟩
  · exact .inl ⟨rfl, .inr ⟨631, rfl, by decide, rfl⟩⟩
  · exact .inl ⟨rfl, .inl ⟨rfl, rfl⟩⟩
  · exact .inr ⟨rfl, by decide, rfl⟩

theorem witness_RestartKeepsTheMachine :
    Takeable (asked (frame 0x0017 1 []) State.reset) (frame 0x0017 1 []) ∧ State.reset.test.running = false ∧ State.reset.job.state = .idle ∧
    restarting.link.restartPending = true ∧ ∀ r ∈ restarting.link.replies, r.busy = true :=
  ⟨takeable_asked _ _ rfl, rfl, rfl, rfl, by decide⟩

end Sys2Proof.Machine.Tests
end

namespace Sys2Proof.Machine

/-! ## The parts of the ring's order -/

theorem WorkQueue.Ordered.occupied {q : WorkQueue} (h : q.Ordered) {x : Slot} (hx : x ∈ q.slots) : x.state ≠ .free := by
  obtain ⟨-, -, hslots, -, -⟩ := h
  exact (hslots x hx).1

theorem WorkQueue.Ordered.retries_le {q : WorkQueue} (h : q.Ordered) {x : Slot} (hx : x ∈ q.slots) : x.retries ≤ 3 := by
  obtain ⟨-, -, hslots, -, -⟩ := h
  obtain ⟨-, -, -, -, -, -, -, hretries⟩ := hslots x hx
  exact hretries

theorem WorkQueue.Ordered.pairwise {q : WorkQueue} (h : q.Ordered) :
    q.slots.Pairwise fun x y => x.state.rank ≤ y.state.rank ∧ ¬ (x.state.rank = 1 ∧ y.state.rank = 1) := by
  obtain ⟨-, -, -, -, hpairs⟩ := h
  exact hpairs

/-! ## The order of the ring when a slot changes in place -/

/-- `y` may stand in the ring where `x` stands: it is occupied, holds the same entry at the same chain position, and its RETRY count is
within bounds. -/
def Slot.Replaces (x y : Slot) : Prop := y.entry = x.entry ∧ y.chainPos = x.chainPos ∧ y.state ≠ .free ∧ y.retries ≤ 3

/-- Every slot before place `k` is finished and every slot behind it READY, so a slot in any state may stand at `k`. -/
def WorkQueue.SplitsAt (q : WorkQueue) (k : Nat) : Prop :=
  (∀ j y, j < k → q.slots[j]? = some y → y.state.finished = true) ∧ (∀ j y, k < j → q.slots[j]? = some y → y.state = .ready)

/-- The ring is in order and no entry is at work. -/
def WorkQueue.AtRest (q : WorkQueue) : Prop := q.Ordered ∧ NoneWorking q

theorem SlotState.rank_finished {st : SlotState} (h : st.finished = true) : st.rank = 0 := by
  cases st <;> simp_all [SlotState.finished, SlotState.rank]

theorem SlotState.finished_of_rank {st : SlotState} (h : st.rank = 0) : st.finished = true := by
  cases st <;> simp_all [SlotState.finished, SlotState.rank]

theorem SlotState.ready_of_rank {st : SlotState} (h : 2 ≤ st.rank) (hf : st ≠ .free) : st = .ready := by
  cases st <;> simp_all [SlotState.rank]

theorem SlotState.working_iff {st : SlotState} : st.working = true ↔ st = .active ∨ st = .faulted := by
  cases st <;> simp [SlotState.working]

theorem SlotState.rank_of_working {st : SlotState} (h : st.working = true) : st.rank = 1 := by
  cases st <;> simp_all [SlotState.working, SlotState.rank]

theorem SlotState.rank_le_two {st : SlotState} (h : st ≠ .free) : st.rank ≤ 2 := by
  cases st <;> simp_all [SlotState.rank]

theorem SlotState.finished_idle {st : SlotState} (h : st.finished = true) : st ≠ .active ∧ st ≠ .faulted := by
  cases st <;> simp_all [SlotState.finished]

theorem SlotState.finished_ne_ready {st : SlotState} (h : st.finished = true) : st ≠ .ready := by
  cases st <;> simp_all [SlotState.finished]

theorem SlotState.finished_occupied {st : SlotState} (h : st.finished = true) : st ≠ .free := by
  cases st <;> simp_all [SlotState.finished]

/-- A ring whose slots are replaced one for one is in order when their states are. -/
theorem WorkQueue.Ordered.replaced {q : WorkQueue} {l : List Slot} (h : q.Ordered) (hl : l.length = q.slots.length)
    (hr : ∀ (i : Nat) (x y : Slot), q.slots[i]? = some x → l[i]? = some y → x.Replaces y)
    (hp : l.Pairwise (fun x y => x.state.rank ≤ y.state.rank ∧ ¬ (x.state.rank = 1 ∧ y.state.rank = 1))) :
    WorkQueue.Ordered { q with slots := l } := by
  obtain ⟨h1, h2, h3, h4, -⟩ := h
  have old : ∀ (i : Nat) (y : Slot), l[i]? = some y → ∃ x, q.slots[i]? = some x ∧ x.Replaces y := by
    intro i y hy
    have hi : i < q.slots.length := hl ▸ (List.getElem?_eq_some_iff.1 hy).1
    exact ⟨_, List.getElem?_eq_getElem hi, hr i _ y (List.getElem?_eq_getElem hi) hy⟩
  refine ⟨h1, hl ▸ h2, ?_, ?_, hp⟩
  · intro y hy
    obtain ⟨i, hi⟩ := List.mem_iff_getElem?.1 hy
    obtain ⟨x, hx, he, hc, hf, hn⟩ := old i y hi
    obtain ⟨-, g1, g2, g3, g4, g5, g6, -⟩ := h3 x (List.mem_of_getElem? hx)
    rw [he, hc]
    exact ⟨hf, g1, g2, g3, g4, g5, g6, hn⟩
  · intro i y y' hy hy'
    obtain ⟨x, hx, he, hc, -⟩ := old i y hy
    obtain ⟨x', hx', he', hc', -⟩ := old (i + 1) y' hy'
    have := h4 i x x' hx hx'
    unfold Slot.precedes at this ⊢
    rwa [he, hc, he', hc']

theorem getElem?_modify_eq {l : List Slot} {k : Nat} {f : Slot → Slot} {i : Nat} {y : Slot} (h : (l.modify k f)[i]? = some y) :
    ∃ x, l[i]? = some x ∧ y = if k = i then f x else x := by
  rw [List.getElem?_modify] at h
  cases hx : l[i]? with
  | none => simp [hx] at h
  | some x => exact ⟨x, rfl, by simpa [hx] using h.symm⟩

/-- A relation on pairs, the older first, survives the change of the slot at place `k` when that slot keeps it. -/
theorem pairwise_modify {R : Slot → Slot → Prop} {l : List Slot} {k : Nat} {f : Slot → Slot} (h : l.Pairwise R)
    (hb : ∀ j x y, j < k → l[j]? = some x → l[k]? = some y → R x (f y))
    (ha : ∀ j x y, k < j → l[k]? = some y → l[j]? = some x → R (f y) x) : (l.modify k f).Pairwise R := by
  rw [List.pairwise_iff_getElem] at h ⊢
  intro i j hi hj hij
  obtain ⟨x, hx, ex⟩ := getElem?_modify_eq (List.getElem?_eq_getElem hi)
  obtain ⟨y, hy, ey⟩ := getElem?_modify_eq (List.getElem?_eq_getElem hj)
  rw [ex, ey]
  by_cases hki : k = i
  · subst hki
    rw [if_pos rfl, if_neg (by omega)]
    exact ha j y x hij hx hy
  · rw [if_neg hki]
    by_cases hkj : k = j
    · subst hkj
      rw [if_pos rfl]
      exact hb i x y hij hx hy
    · rw [if_neg hkj]
      obtain ⟨hi', rfl⟩ := List.getElem?_eq_some_iff.1 hx
      obtain ⟨hj', rfl⟩ := List.getElem?_eq_some_iff.1 hy
      exact h i j hi' hj' hij

/-- The ring stays in order when the slot at place `k` is replaced and the states stay in order. -/
theorem WorkQueue.Ordered.modify {q : WorkQueue} {k : Nat} {f : Slot → Slot} (h : q.Ordered)
    (hf : ∀ x, q.slots[k]? = some x → x.Replaces (f x))
    (hb : ∀ j x y, j < k → q.slots[j]? = some x → q.slots[k]? = some y →
      x.state.rank ≤ (f y).state.rank ∧ ¬ (x.state.rank = 1 ∧ (f y).state.rank = 1))
    (ha : ∀ j x y, k < j → q.slots[k]? = some y → q.slots[j]? = some x →
      (f y).state.rank ≤ x.state.rank ∧ ¬ ((f y).state.rank = 1 ∧ x.state.rank = 1)) : (q.modify k f).Ordered := by
  refine WorkQueue.Ordered.replaced h (List.length_modify ..) ?_ ?_
  · intro i x y hx hy
    obtain ⟨x', hx', rfl⟩ := getElem?_modify_eq hy
    obtain rfl : x = x' := Option.some_inj.1 (hx.symm.trans hx')
    split
    · next hk => subst hk; exact hf x hx
    · have g1 := h.occupied (List.mem_of_getElem? hx)
      have g8 := h.retries_le (List.mem_of_getElem? hx)
      exact ⟨rfl, rfl, g1, g8⟩
  · exact pairwise_modify h.pairwise hb ha

/-- Any occupied state may come to stand at a place where the ring splits. -/
theorem WorkQueue.Ordered.modify_split {q : WorkQueue} {k : Nat} {f : Slot → Slot} (h : q.Ordered) (hk : q.SplitsAt k)
    (hf : ∀ x, q.slots[k]? = some x → x.Replaces (f x)) : (q.modify k f).Ordered := by
  obtain ⟨hb, ha⟩ := hk
  refine h.modify hf ?_ ?_
  · intro j x y hj hx hy
    have hx0 := SlotState.rank_finished (hb j x hj hx)
    omega
  · intro j x y hj hy hx
    obtain ⟨-, -, hfree, -⟩ := hf y hy
    have hy2 := SlotState.rank_le_two hfree
    rw [ha j x hj hx, show SlotState.ready.rank = 2 from rfl]
    omega

/-- Changing what a slot holds besides its place in the order law keeps the ring in order. -/
theorem WorkQueue.Ordered.modify_rank {q : WorkQueue} {k : Nat} {f : Slot → Slot} (h : q.Ordered)
    (hf : ∀ x, q.slots[k]? = some x → x.Replaces (f x)) (hr : ∀ x, (f x).state.rank = x.state.rank) : (q.modify k f).Ordered := by
  have law := List.pairwise_iff_getElem.1 h.pairwise
  refine h.modify hf ?_ ?_
  · intro j x y hj hx hy
    obtain ⟨hj', rfl⟩ := List.getElem?_eq_some_iff.1 hx
    obtain ⟨hk', rfl⟩ := List.getElem?_eq_some_iff.1 hy
    rw [hr]
    exact law j k hj' hk' hj
  · intro j x y hj hy hx
    obtain ⟨hj', rfl⟩ := List.getElem?_eq_some_iff.1 hx
    obtain ⟨hk', rfl⟩ := List.getElem?_eq_some_iff.1 hy
    rw [hr]
    exact law k j hk' hj' hj

/-- No entry is at work after a change at place `k` that leaves none there, when none was elsewhere. -/
theorem noneWorking_modify {q : WorkQueue} {k : Nat} {f : Slot → Slot}
    (ho : ∀ j y, j ≠ k → q.slots[j]? = some y → y.state ≠ .active ∧ y.state ≠ .faulted)
    (hf : ∀ x, q.slots[k]? = some x → (f x).state ≠ .active ∧ (f x).state ≠ .faulted) : NoneWorking (q.modify k f) := by
  intro y hy
  obtain ⟨i, hi⟩ := List.mem_iff_getElem?.1 hy
  obtain ⟨x, hx, rfl⟩ := getElem?_modify_eq hi
  split
  · next h => subst h; exact hf x hx
  · next h => exact ho i x (Ne.symm h) hx

theorem WorkQueue.SplitsAt.others {q : WorkQueue} {k : Nat} (h : q.SplitsAt k) (j : Nat) (y : Slot) (hj : j ≠ k)
    (hy : q.slots[j]? = some y) : y.state ≠ .active ∧ y.state ≠ .faulted := by
  rcases Nat.lt_or_gt_of_ne hj with hj | hj
  · exact SlotState.finished_idle (h.1 j y hj hy)
  · simp [h.2 j y hj hy]

theorem WorkQueue.SplitsAt.modify {q : WorkQueue} {k : Nat} {f : Slot → Slot} (h : q.SplitsAt k) : (q.modify k f).SplitsAt k := by
  refine ⟨fun j y hj hy => ?_, fun j y hj hy => ?_⟩ <;> obtain ⟨x, hx, rfl⟩ := getElem?_modify_eq hy <;>
    rw [if_neg (by omega)]
  · exact h.1 j x hj hx
  · exact h.2 j x hj hx

/-! ## Where the ring splits -/

/-- In order, the ring splits at its ACTIVE or FAULTED slot. -/
theorem WorkQueue.Ordered.splitsAt_working {q : WorkQueue} {k : Nat} {x : Slot} (h : q.Ordered) (hx : q.slots[k]? = some x)
    (hw : x.state.working = true) : q.SplitsAt k := by
  have law := List.pairwise_iff_getElem.1 h.pairwise
  obtain ⟨hk, rfl⟩ := List.getElem?_eq_some_iff.1 hx
  have hr := SlotState.rank_of_working hw
  refine ⟨fun j y hj hy => ?_, fun j y hj hy => ?_⟩ <;> obtain ⟨hj', rfl⟩ := List.getElem?_eq_some_iff.1 hy
  · have := law j k hj' hk hj
    exact SlotState.finished_of_rank (by omega)
  · have := law k j hk hj' hj
    exact SlotState.ready_of_rank (by omega) (h.occupied (List.getElem_mem hj'))

/-- The place of the oldest READY slot. -/
theorem WorkQueue.readyPos_eq_some {q : WorkQueue} {k : Nat} :
    q.readyPos = some k ↔ ∃ x, OldestReady q k x := by
  unfold WorkQueue.readyPos OldestReady
  rw [List.findIdx?_eq_some_iff_getElem]
  constructor
  · rintro ⟨hk, h1, h2⟩
    refine ⟨_, List.getElem?_eq_getElem hk, by simpa using h1, fun j y hj hy => ?_⟩
    obtain ⟨hj', rfl⟩ := List.getElem?_eq_some_iff.1 hy
    simpa using h2 j hj
  · rintro ⟨x, hx, h1, h2⟩
    obtain ⟨hk, rfl⟩ := List.getElem?_eq_some_iff.1 hx
    exact ⟨hk, by simpa using h1, fun j hj => by simpa using h2 j _ hj (List.getElem?_eq_getElem (by omega))⟩

theorem WorkQueue.readyPos_none {q : WorkQueue} : q.readyPos = none ↔ ∀ y ∈ q.slots, y.state ≠ .ready := by
  simp [WorkQueue.readyPos, List.findIdx?_eq_none_iff]

/-- With no entry at work, the ring splits at its oldest READY slot. -/
theorem WorkQueue.AtRest.splitsAt_ready {q : WorkQueue} {k : Nat} (h : q.AtRest) (hk : q.readyPos = some k) :
    q.SplitsAt k := by
  obtain ⟨x, hx, hr, hb⟩ := WorkQueue.readyPos_eq_some.1 hk
  obtain ⟨ho, hn⟩ := h
  have law := List.pairwise_iff_getElem.1 ho.pairwise
  obtain ⟨hk', rfl⟩ := List.getElem?_eq_some_iff.1 hx
  refine ⟨fun j y hj hy => ?_, fun j y hj hy => ?_⟩
  · have h1 := hb j y hj hy
    have h2 := hn y (List.mem_of_getElem? hy)
    have h3 := (ho.occupied (List.mem_of_getElem? hy))
    revert h1 h2 h3
    cases y.state <;> simp [SlotState.finished]
  · obtain ⟨hj', rfl⟩ := List.getElem?_eq_some_iff.1 hy
    have := (law k j hk' hj' hj).1
    rw [hr] at this
    exact SlotState.ready_of_rank this (ho.occupied (List.getElem_mem hj'))

/-- The place and the record of the active slot are of one slot, which is ACTIVE or FAULTED. -/
theorem WorkQueue.active_some {q : WorkQueue} {k : Nat} (h : q.activePos = some k) :
    ∃ x, q.activeSlot = some x ∧ q.slots[k]? = some x ∧ x.state.working = true := by
  unfold WorkQueue.activePos at h
  unfold WorkQueue.activeSlot
  obtain ⟨hk, h1, -⟩ := List.findIdx?_eq_some_iff_getElem.1 h
  refine ⟨q.slots[k], ?_, List.getElem?_eq_getElem hk, h1⟩
  rw [List.find?_eq_bind_findIdx?_getElem?, h]
  exact List.getElem?_eq_getElem hk

theorem WorkQueue.activeSlot_none {q : WorkQueue} : q.activeSlot = none ↔ q.activePos = none := by
  simp [WorkQueue.activeSlot, WorkQueue.activePos, List.findIdx?_eq_none_iff]

end Sys2Proof.Machine

namespace Sys2Proof.Machine

/-! ## Activation as one change of the state -/

/-- The places of the used units go to the arbiter in the order LO, LI, RI, RO. -/
def Arbiter.askShift (a : Arbiter) (g : Quad UnitSettings) : Arbiter :=
  (UnitId.all.filter fun u => (g.get u).mask != 0).foldl (fun a u => a.request (.unit u)) a

/-- The units after the activation of an entry with the settings `g`. -/
def activatedUnits (g : Quad UnitSettings) (q : Quad TUnit) : Quad TUnit :=
  ⟨q.lo.activated g.lo, q.li.activated g.li, q.ri.activated g.ri, q.ro.activated g.ro⟩

@[simp] theorem activatedUnits_get (g : Quad UnitSettings) (q : Quad TUnit) (u : UnitId) :
    (activatedUnits g q).get u = (q.get u).activated (g.get u) := by cases u <;> rfl

theorem activateUnit_eq (u : UnitId) (g : UnitSettings) (s : State) :
    activateUnit u g s = { s with
      units := s.units.set u ((s.unit u).activated g)
      arb := if g.mask = 0 then s.arb else s.arb.request (.unit u) } := by
  unfold activateUnit
  split
  · next h => simp [TUnit.activated, UnitResult.empty, h, changeUnit, State.setUnits]
  · next h => simp [TUnit.activated, UnitResult.empty, h, changeUnit, State.setUnits, enterMotion, arbiter, State.setArb, State.unit]

theorem activateUnits_eq (g : Quad UnitSettings) (s : State) :
    activateUnits g s = { s with units := activatedUnits g s.units, arb := s.arb.askShift g } := by
  simp only [activateUnits, activateUnit_eq, State.unit, Quad.set, Quad.get, activatedUnits, Arbiter.askShift, UnitId.all,
    List.filter_cons, List.filter_nil, bne_iff_ne, ne_eq, ite_not]
  split_ifs <;> rfl

/-- The travel record when positioning starts: the first case of R107 that holds. -/
def Travel.started (p : Params) (t : Travel) : Travel :=
  if p.creepDistance < t.goal - t.p then { t with state := .fast, reversals := 0, settle := none }
  else if p.posTolerance < t.goal - t.p then { t with state := .creep, reversals := 0, settle := none }
  else if p.posTolerance < t.p - t.goal then { t with state := .reversing, reversals := 1, settle := none }
  else { t with state := .stopping, reversals := 0, settle := some p.settleTime }

theorem startPositioning_eq (s : State) : startPositioning s = { s with travel := s.travel.started s.params } := rfl

theorem Travel.goal_eq {t : Travel} {goal : Int} (h : t.target = some goal) : t.goal = goal := by
  simp [Travel.goal, h]

theorem Travel.started_positioned {p : Params} {t : Travel} {goal : Int} (h : t.target = some goal) :
    Positioned p t.p goal (t.started p) := by
  simp only [Travel.started, Travel.goal_eq h, Positioned]
  split_ifs <;> simp [h]

@[simp] theorem Travel.started_drive (p : Params) (t : Travel) : (t.started p).drive = t.drive := by
  unfold Travel.started
  split_ifs <;> rfl

/-- The slot at place `k` is activated with the LLU not HOLDING: positioning starts (R28). -/
def State.positioned (s : State) (k : Nat) (x : Slot) : State :=
  { s with
    queue := { s.queue with slots := s.queue.slots.set k { x with state := .active, kept := none } }
    job := { s.job with phase := some .positioning, done := x.entry.units.map (·.mask == 0) }
    llu := { s.llu with reached := if s.llu.state = .isOpen then false else s.llu.reached }
    units := activatedUnits x.entry.units s.units
    arb := s.arb.askShift x.entry.units
    travel := Travel.started s.params { s.travel with target := some (min (s.job.base + x.entry.distance) 4000000) } }

/-- A change of the slot at a place that holds `x` sets what `x` becomes. -/
theorem modify_eq_set {l : List Slot} {k : Nat} {x : Slot} (h : l[k]? = some x) (f : Slot → Slot) : l.modify k f = l.set k (f x) := by
  rw [List.modify_eq_set_getElem?, h]
  rfl

theorem activate_positioned {k : Nat} {x : Slot} {s : State} (hx : s.queue.slots[k]? = some x) (hl : s.llu.state ≠ .holding) :
    activate k s = s.positioned k x := by
  have hs : ∀ t : State, t.llu.state ≠ .holding → (if t.llu.state = .holding then continueChain k (x.entry.units.all (·.mask == 0)) t
      else positionEntry t) = positionEntry t := fun t ht => if_neg ht
  unfold activate
  simp only [hx]
  rw [hs _ (by simpa using hl)]
  simp only [activateUnits_eq, State.setJob, State.setQueue, State.setTravel, WorkQueue.modify, modify_eq_set hx, positionEntry]
  split <;> simp_all [State.positioned, setPhase, changeLlu, State.setJob, State.setLlu, State.targetOf, startPositioning_eq]

/-- The slot at place `k` is activated on the held track: the engine's record is taken over and copied to the slot (R29). -/
def State.chained (s : State) (k : Nat) (x : Slot) : State :=
  { s with
    queue := { s.queue with
      slots := s.queue.slots.set k { x with state := .active, kept := none, copy := s.engine.takeOver.record?.or x.copy } }
    job := { s.job with
      phase := some (if x.entry.units.all (·.mask == 0) then .working else .holding)
      done := x.entry.units.map (·.mask == 0) }
    engine := s.engine.takeOver
    llu := { s.llu with joinHold := none }
    units := activatedUnits x.entry.units s.units
    arb := s.arb.askShift x.entry.units
    travel := { s.travel with target := some (min (s.job.base + x.entry.distance) 4000000) } }

theorem activate_chained {k : Nat} {x : Slot} {s : State} (hx : s.queue.slots[k]? = some x) (hl : s.llu.state = .holding) :
    activate k s = s.chained k x := by
  have hs : ∀ t : State, t.llu.state = .holding → (if t.llu.state = .holding then continueChain k (x.entry.units.all (·.mask == 0)) t
      else positionEntry t) = continueChain k (x.entry.units.all (·.mask == 0)) t := fun t ht => if_pos ht
  have hk : k < s.queue.slots.length := (List.getElem?_eq_some_iff.1 hx).1
  unfold activate
  simp only [hx]
  rw [hs _ (by simpa using hl)]
  simp only [activateUnits_eq, State.setJob, State.setQueue, State.setTravel, WorkQueue.modify, modify_eq_set hx, continueChain]
  simp [setPhase, changeLlu, State.setJob, State.setLlu, State.setEngine, State.chained, State.targetOf,
    modify_eq_set (List.getElem?_set_self hk)]

/-- With the record `c` held, this is the continuation of R29 in full. -/
theorem chained_eq_continued {k : Nat} {x : Slot} {s : State} {c : Correction} (he : s.engine = .held c) :
    s.chained k x = s.continued k x c := by
  simp [State.chained, State.continued, he, Engine.takeOver, Engine.record?, Slot.tookOver, activatedUnits, Arbiter.askShift]

/-- An activation outside a hold is the one R28 describes. -/
theorem positioned_activated (s : State) (k : Nat) (x : Slot) : Activated s (s.positioned k x) k x s.travel.p :=
  ⟨rfl, Travel.started_positioned rfl, fun u => by simp [State.positioned, State.unit], rfl, rfl, rfl,
    fun u => by simp [State.positioned]⟩

end Sys2Proof.Machine

namespace Sys2Proof.Machine

/-! ## The queue and the job together -/

/-- `QueueSound` looks at the ring, the job state and the phase alone. -/
theorem QueueSound.congr {s t : State} (h : QueueSound s) (hq : t.queue = s.queue) (hs : t.job.state = s.job.state)
    (hp : t.job.phase = s.job.phase) : QueueSound t := by
  unfold QueueSound at h ⊢
  rwa [hq, hs, hp]

/-- With no entry at work the ring fits every job state. -/
theorem WorkQueue.AtRest.sound {s : State} (h : s.queue.AtRest) : QueueSound s :=
  ⟨h.1, fun _ => h.2, fun _ x hx => (h.2 x hx).1, fun _ => ⟨fun x hx => (h.2 x hx).2, fun _ => h.2⟩, fun _ _ => h.2⟩

theorem QueueSound.atRest_idle {s : State} (h : QueueSound s) (hs : s.job.state = .idle) : s.queue.AtRest := ⟨h.1, h.2.1 hs⟩

theorem QueueSound.atRest_starved {s : State} (h : QueueSound s) (hs : s.job.state = .running ∨ s.job.state = .paused)
    (hp : s.job.phase = some .starved) : s.queue.AtRest := ⟨h.1, (h.2.2.2.1 hs).2 hp⟩

theorem QueueSound.atRest_paused {s : State} (h : QueueSound s) (hs : s.job.state = .paused) (hp : s.job.phase = none) :
    s.queue.AtRest := ⟨h.1, h.2.2.2.2 hs hp⟩

theorem QueueSound.atRest_of_noActive {s : State} (h : QueueSound s) (ha : s.queue.activePos = none) : s.queue.AtRest :=
  ⟨h.1, WorkQueue.activePos_none.1 ha⟩

theorem QueueSound.noFaulted {s : State} (h : QueueSound s) (hs : s.job.state = .running ∨ s.job.state = .paused) :
    ∀ x ∈ s.queue.slots, x.state ≠ .faulted := (h.2.2.2.1 hs).1

theorem QueueSound.noActive {s : State} (h : QueueSound s) (hs : s.job.state = .halted) :
    ∀ x ∈ s.queue.slots, x.state ≠ .active := h.2.2.1 hs

/-- A running job outside STARVED asks of the ring only that no slot is FAULTED. -/
theorem queueSound_running {s : State} (ho : s.queue.Ordered) (hs : s.job.state = .running)
    (hf : ∀ x ∈ s.queue.slots, x.state ≠ .faulted) (hp : s.job.phase ≠ some .starved) : QueueSound s := by
  refine ⟨ho, ?_, ?_, fun _ => ⟨hf, fun h => absurd h hp⟩, ?_⟩ <;> simp [hs]

/-- A running or paused job may go on to any other running phase but STARVED. -/
theorem QueueSound.toPhase {s t : State} (h : QueueSound s) (hs : s.job.state = .running) (hq : t.queue = s.queue)
    (ht : t.job.state = .running) (hp : t.job.phase ≠ some .starved) : QueueSound t :=
  queueSound_running (hq ▸ h.1) ht (hq ▸ h.noFaulted (.inl hs)) hp

/-! ## Activation -/

/-- What an activation does to the ring and the job: the slot is ACTIVE, with its entry, its chain position and its RETRY count, and
the job stays in its state, in a phase other than STARVED. -/
theorem activate_effect {k : Nat} {s : State} {x : Slot} (hx : s.queue.slots[k]? = some x) :
    ∃ y : Slot, (activate k s).queue = s.queue.modify k (fun _ => y) ∧
      y.state = .active ∧ y.entry = x.entry ∧ y.chainPos = x.chainPos ∧ y.retries = x.retries ∧
      (activate k s).job.state = s.job.state ∧ (activate k s).job.phase ≠ some .starved := by
  simp only [WorkQueue.modify, modify_eq_set hx]
  by_cases hl : s.llu.state = .holding
  · rw [activate_chained hx hl]
    refine ⟨_, rfl, rfl, rfl, rfl, rfl, rfl, ?_⟩
    simp only [State.chained]
    split <;> simp
  · rw [activate_positioned hx hl]
    exact ⟨_, rfl, rfl, rfl, rfl, rfl, rfl, by simp [State.positioned]⟩

/-- The entry at a place where the ring splits may be activated while the job runs. -/
theorem activate_queueSound {k : Nat} {s : State} {x : Slot} (ho : s.queue.Ordered) (hk : s.queue.SplitsAt k)
    (hx : s.queue.slots[k]? = some x) (hs : s.job.state = .running) : QueueSound (activate k s) := by
  obtain ⟨y, hq, ha, he, hc, hr, hj, hp⟩ := activate_effect hx
  have hrep : x.Replaces y := ⟨he, hc, by simp [ha], hr ▸ ho.retries_le (List.mem_of_getElem? hx)⟩
  refine queueSound_running ?_ (hj.trans hs) ?_ hp <;> rw [hq]
  · refine ho.modify_split hk fun x' hx' => ?_
    obtain rfl : x = x' := Option.some_inj.1 (hx.symm.trans hx')
    exact hrep
  · intro z hz
    obtain ⟨i, hi⟩ := List.mem_iff_getElem?.1 hz
    obtain ⟨z', hz', rfl⟩ := getElem?_modify_eq hi
    split
    · simp [ha]
    · next hne => exact (hk.others i z' (Ne.symm hne) hz').2

/-- The oldest READY entry may be activated when no entry is at work. -/
theorem activate_ready_queueSound {k : Nat} {s : State} (h : s.queue.AtRest) (hk : s.queue.readyPos = some k)
    (hs : s.job.state = .running) : QueueSound (activate k s) := by
  obtain ⟨x, hx, -⟩ := WorkQueue.readyPos_eq_some.1 hk
  exact activate_queueSound h.1 (h.splitsAt_ready hk) hx hs

/-! ## Finishing an entry -/

/-- After the active entry, if any, has finished, no entry is at work. -/
theorem finishActive_atRest {final : SlotState} {residual : Option (Int × Int)} {missing : Bool} {fault : Option FaultCode}
    {s : State} (h : s.queue.Ordered) (hf : final.finished = true) :
    (finishActive final residual missing fault s).queue.AtRest := by
  unfold finishActive
  cases hk : s.queue.activePos with
  | none => exact ⟨h, WorkQueue.activePos_none.1 hk⟩
  | some k =>
    obtain ⟨x, hx, hkx, hw⟩ := WorkQueue.active_some hk
    have hsplit := h.splitsAt_working hkx hw
    simp only [hx, place_keeps, State.setQueue_reads]
    refine ⟨h.modify_split hsplit fun y hy => ?_, noneWorking_modify hsplit.others fun _ _ => SlotState.finished_idle hf⟩
    exact ⟨rfl, rfl, SlotState.finished_occupied hf, h.retries_le (x := y) (List.mem_of_getElem? hy)⟩

theorem workedFinal_finished (s : State) : s.workedFinal.finished = true := by
  unfold State.workedFinal
  split <;> rfl

theorem finishHeld_atRest {s : State} (h : s.queue.Ordered) : (finishHeld s).queue.AtRest := by
  unfold finishHeld
  simpa using finishActive_atRest (s := lluHold s) (by simpa using h) (workedFinal_finished s)

theorem finishHeld_job (s : State) : (finishHeld s).job.state = s.job.state := by
  simp [finishHeld, setPhase, baseToTarget]

theorem State.workEnded_running {s : State} (h : s.workEnded = true) : s.job.state = .running := by
  simp only [State.workEnded, Bool.and_eq_true, beq_iff_eq] at h
  exact h.1.1.1

theorem beginRelease_queueSound {s : State} (h : QueueSound s) (hs : s.job.state = .running) : QueueSound (beginRelease s) :=
  h.toPhase hs (by simp) (by simp [beginRelease, setPhase, hs]) (by simp [beginRelease, setPhase])

/-- The end of work keeps the ring and the job in step, however many continuations it runs through. -/
theorem endOfWork_queueSound (n : Nat) {s : State} (h : QueueSound s) : QueueSound (endOfWork n s) := by
  induction n generalizing s with
  | zero => exact h
  | succ n ih =>
    unfold endOfWork
    split
    · next hw =>
      have hs := State.workEnded_running hw
      have hr := finishHeld_atRest h.1
      split
      · exact h
      · split
        · split
          · exact WorkQueue.AtRest.sound (by simpa using hr)
          · split
            · next hk => exact ih (activate_ready_queueSound hr hk ((finishHeld_job s).trans hs))
            · exact hr.sound
        · exact beginRelease_queueSound h hs
    · exact h

theorem testEndOfWork_queueSound {s : State} (h : QueueSound s) : QueueSound (testEndOfWork s) := endOfWork_queueSound _ h

theorem activateSlot_queueSound {k : Nat} {s : State} (h : s.queue.AtRest) (hk : s.queue.readyPos = some k)
    (hs : s.job.state = .running) : QueueSound (activateSlot k s) :=
  testEndOfWork_queueSound (activate_ready_queueSound h hk hs)

/-! ## Going on after a finish -/

theorem nextOrStarve_queueSound {s : State} (h : s.queue.AtRest) (hs : s.job.state = .running) : QueueSound (nextOrStarve s) := by
  unfold nextOrStarve
  split
  · next hk => exact activateSlot_queueSound h hk hs
  · exact WorkQueue.AtRest.sound (by simpa using h)

theorem pauseOrNext_queueSound {s : State} (h : s.queue.AtRest) (hs : s.job.state = .running) : QueueSound (pauseOrNext s) := by
  unfold pauseOrNext
  split
  · exact WorkQueue.AtRest.sound (by simpa using h)
  · exact nextOrStarve_queueSound h hs

theorem finishTests_queueSound {skipped : Bool} {e : Entry} {s : State} (h : s.queue.AtRest) (hs : s.job.state = .running) :
    QueueSound (finishTests skipped e s) := by
  unfold finishTests
  split
  · exact WorkQueue.AtRest.sound (by simpa using h)
  · split
    · split
      · next hk => exact activateSlot_queueSound h hk hs
      · exact h.sound
    · exact pauseOrNext_queueSound h hs

/-! ## The halt -/

theorem faultActive_ordered {s : State} (h : s.queue.Ordered) : s.faultActive.queue.Ordered := by
  refine WorkQueue.Ordered.replaced h (List.length_map ..) ?_ ?_
  · intro i x y hx hy
    obtain rfl : _ = y := by simpa [hx] using hy
    have g1 := h.occupied (List.mem_of_getElem? hx)
    have g8 := h.retries_le (List.mem_of_getElem? hx)
    split <;> exact ⟨rfl, rfl, by simp [g1], g8⟩
  · refine List.Pairwise.map _ (fun x y hxy => ?_) h.pairwise
    have rank_eq : ∀ z : Slot, (if z.state = .active then { z with state := .faulted, kept := some (s.reachedBy z) } else z).state.rank
        = z.state.rank := by
      intro z
      split
      · next hz => rw [hz]; rfl
      · rfl
    rwa [rank_eq, rank_eq]

theorem halt_queueSound {code : FaultCode} {source : FaultSource} {s : State} (h : QueueSound s) :
    QueueSound (halt code source s) := by
  have hq : (halt code source s).queue = s.faultActive.queue := by simp [halt]
  have hj : (halt code source s).job.state = .halted := by simp [halt]
  have hn : ∀ x ∈ (halt code source s).queue.slots, x.state ≠ .active := by
    rw [hq]
    intro x hx
    obtain ⟨y, -, rfl⟩ := List.mem_map.1 hx
    split <;> simp_all
  refine ⟨hq ▸ faultActive_ordered h.1, ?_, fun _ => hn, ?_, ?_⟩ <;> simp [hj]

theorem raiseFault_queueSound {code : FaultCode} {source : FaultSource} {s : State} (h : QueueSound s) :
    QueueSound (raiseFault code source s) := by
  unfold raiseFault
  split
  · exact halt_queueSound h
  · exact halt_queueSound h
  · exact h.congr (by simp) (by simp [recordFurther]) (by simp [recordFurther])
  · exact h

end Sys2Proof.Machine

namespace Sys2Proof.Machine

/-! ## Loading, collecting and aborting -/

/-- A change of the ring that brings no ACTIVE or FAULTED slot in stays in step with the job. -/
theorem QueueSound.requeue {s t : State} (h : QueueSound s) (ho : t.queue.Ordered)
    (hw : ∀ y ∈ t.queue.slots, y.state.working = true → ∃ x ∈ s.queue.slots, x.state = y.state)
    (hs : t.job.state = s.job.state) (hp : t.job.phase = s.job.phase) : QueueSound t := by
  have none (hn : NoneWorking s.queue) : NoneWorking t.queue := by
    intro y hy
    by_contra hc
    obtain ⟨x, hx, he⟩ := hw y hy (SlotState.working_iff.2 (by tauto))
    have := hn x hx
    rw [he] at this
    tauto
  have avoid (st : SlotState) (hst : st.working = true) (hn : ∀ x ∈ s.queue.slots, x.state ≠ st) :
      ∀ y ∈ t.queue.slots, y.state ≠ st := by
    intro y hy hc
    obtain ⟨x, hx, he⟩ := hw y hy (hc ▸ hst)
    exact hn x hx (he.trans hc)
  obtain ⟨-, h1, h2, h3, h4⟩ := h
  rw [QueueSound, hs, hp]
  exact ⟨ho, fun hi => none (h1 hi), fun hh => avoid .active rfl (h2 hh),
    fun hr => ⟨avoid .faulted rfl (h3 hr).1, fun hst => none ((h3 hr).2 hst)⟩, fun ha hb => none (h4 ha hb)⟩

theorem cleared_atRest : WorkQueue.cleared.AtRest := by
  refine ⟨⟨by decide, by decide, ?_, ?_, List.Pairwise.nil⟩, ?_⟩ <;> simp [WorkQueue.cleared, NoneWorking]

/-- The newest slot, as the reference of a load (R9), and the slot that goes behind it. -/
theorem newest_precedes {q : WorkQueue} {e : Entry} {x : Slot} (hx : q.slots.getLast? = some x) (hn : NumberInOrder q e) :
    x.precedes (readySlot (clampEntry e) q.nextChainPos) := by
  rw [WorkQueue.nextChainPos_eq]
  unfold NumberInOrder WorkQueue.newChainPos WorkQueue.reference at *
  unfold Slot.precedes
  simp only [hx] at hn ⊢
  cases hj : x.entry.joinedNext <;> simp_all [readySlot, clampEntry]

/-- What a load appends meets the bounds of the ring (R9, R10, R11). -/
theorem loaded_slot_bounds {q : WorkQueue} {e : Entry} (h : q.Ordered) (hn : NumberInOrder q e) (hc : ChainInOrder q e) :
    1 ≤ q.newChainPos ∧ q.newChainPos ≤ 3 ∧ (e.joinedNext = true → q.newChainPos ≤ 2) ∧ 1 ≤ e.number := by
  unfold NumberInOrder ChainInOrder WorkQueue.newChainPos WorkQueue.reference at *
  cases hx : q.slots.getLast? with
  | none => simp_all; omega
  | some x =>
    obtain ⟨-, -, hslots, -⟩ := h
    obtain ⟨-, g1, g2, g3, -, g5, -⟩ := hslots x (List.mem_of_getLast? hx)
    simp only [hx] at hn hc ⊢
    cases hj : x.entry.joinedNext
    · simp_all; omega
    · have h2 := g3 hj
      simp only [hj, if_true] at hn hc ⊢
      refine ⟨by omega, by omega, fun hje => ?_, by omega⟩
      have : x.chainPos ≠ 2 := fun h => hc.2.2 ⟨hje, trivial, h⟩
      omega

/-- An accepted load keeps the ring in order. -/
theorem WorkQueue.Ordered.load {q : WorkQueue} {e : Entry} (h : q.Ordered) (hr : q.loadRefusal e = none) :
    (q.load (clampEntry e)).Ordered := by
  obtain ⟨hl, hn, hc, hd⟩ := WorkQueue.loadRefusal_none.1 hr
  obtain ⟨b1, b2, b3, b4⟩ := loaded_slot_bounds h hn hc
  rw [← WorkQueue.nextChainPos_eq] at b1 b2 b3
  obtain ⟨h1, -, h3, h4, h5⟩ := h
  refine ⟨h1, ?_, ?_, ?_, ?_⟩
  · simp only [WorkQueue.load, List.length_append, List.length_singleton]
    omega
  · intro x hx
    rcases List.mem_append.1 hx with hx | hx
    · exact h3 x hx
    · obtain rfl := List.mem_singleton.1 hx
      exact ⟨by simp [readySlot], b1, b2, b3, hc.2.1, b4, hd, by simp [readySlot]⟩
  · intro i x y hx hy
    have hi : i + 1 < q.slots.length + 1 := by
      simpa [WorkQueue.load] using (List.getElem?_eq_some_iff.1 hy).1
    simp only [WorkQueue.load] at hx hy
    rw [List.getElem?_append_left (by omega)] at hx
    rcases Nat.lt_or_ge (i + 1) q.slots.length with hi' | hi'
    · rw [List.getElem?_append_left hi'] at hy
      exact h4 i x y hx hy
    · obtain rfl : readySlot (clampEntry e) q.nextChainPos = y := by
        rw [List.getElem?_append_right hi', show i + 1 - q.slots.length = 0 by omega] at hy
        simpa using hy
      refine newest_precedes ?_ hn
      rw [List.getLast?_eq_getElem?, show q.slots.length - 1 = i by omega, hx]
  · refine List.pairwise_append.2 ⟨h5, List.pairwise_singleton _ _, fun x hx y hy => ?_⟩
    obtain rfl := List.mem_singleton.1 hy
    have := SlotState.rank_le_two (h3 x hx).1
    simp only [readySlot, show SlotState.ready.rank = 2 from rfl]
    omega

theorem load_queueSound {s : State} {e : Entry} (h : QueueSound s) (hr : s.queue.loadRefusal e = none) :
    QueueSound (s.setQueue (s.queue.load (clampEntry e))) := by
  refine h.requeue (h.1.load hr) (fun y hy hw => ?_) rfl rfl
  rcases List.mem_append.1 hy with hy | hy
  · exact ⟨y, hy, rfl⟩
  · obtain rfl := List.mem_singleton.1 hy
    cases hw

/-- The ring stays in order when its oldest slots are freed. -/
theorem WorkQueue.Ordered.suffix {q : WorkQueue} {taken rest : List Slot} {o : Nat} (h : q.Ordered) (hq : q.slots = taken ++ rest)
    (ho : o < 64) : WorkQueue.Ordered ⟨o, rest⟩ := by
  obtain ⟨-, h2, h3, h4, h5⟩ := h
  rw [hq] at h2 h3 h4 h5
  refine ⟨ho, ?_, fun x hx => h3 x (List.mem_append_right _ hx), fun i x y hx hy => ?_, (List.pairwise_append.1 h5).2.1⟩
  · simp only [List.length_append] at h2
    simp only
    omega
  · refine h4 (taken.length + i) x y ?_ ?_
    · rw [List.getElem?_append_right (by omega), show taken.length + i - taken.length = i by omega, hx]
    · rw [List.getElem?_append_right (by omega), show taken.length + i + 1 - taken.length = i + 1 by omega, hy]

theorem collect_queueSound {s : State} (held : Bool) (h : QueueSound s) : QueueSound (s.setQueue (s.queue.afterCollect held)) := by
  have hq := (collectFront_spec held 6 s.queue.slots).1
  refine h.requeue (h.1.suffix hq (Nat.mod_lt _ (by decide))) (fun y hy _ => ⟨y, ?_, rfl⟩) rfl rfl
  rw [hq]
  exact List.mem_append_right _ hy

/-- The slot at place `j` after every READY slot has been aborted, from the slot of index `i` on. -/
theorem abortReady_getElem? (i j : Nat) (l : List Slot) :
    (abortReady i l)[j]? = l[j]?.map fun x =>
      if x.state = .ready then { x with state := .aborted, result := some (abortedReady ((i + j) % queueSlots) x) } else x := by
  induction l generalizing i j with
  | nil => simp [abortReady]
  | cons x rest ih =>
    cases j with
    | zero => simp [abortReady]
    | succ j => simp [abortReady, ih, Nat.add_assoc, Nat.add_comm 1 j]

theorem abortReady_length (i : Nat) (l : List Slot) : (abortReady i l).length = l.length := by
  induction l generalizing i with
  | nil => rfl
  | cons x rest ih => simp [abortReady, ih]

/-- With no entry at work, an abort leaves finished slots alone. -/
theorem abortReady_finished {q : WorkQueue} (h : q.AtRest) (i : Nat) :
    ∀ y ∈ abortReady i q.slots, y.state.finished = true := by
  intro y hy
  obtain ⟨j, hj⟩ := List.mem_iff_getElem?.1 hy
  rw [abortReady_getElem?] at hj
  obtain ⟨x, hx, rfl⟩ := Option.map_eq_some_iff.1 hj
  have hm := List.mem_of_getElem? hx
  have h1 := h.2 x hm
  have h2 := (h.1.occupied hm)
  split
  · rfl
  · revert h1 h2
    cases hst : x.state <;> simp_all [SlotState.finished]

theorem abortReady_atRest {q : WorkQueue} (h : q.AtRest) (i : Nat) :
    WorkQueue.AtRest { q with slots := abortReady i q.slots } := by
  have hf := abortReady_finished h i
  refine ⟨WorkQueue.Ordered.replaced h.1 (abortReady_length ..) (fun j x y hx hy => ?_) ?_, fun y hy => SlotState.finished_idle (hf y hy)⟩
  · rw [abortReady_getElem?, hx, Option.map_some, Option.some_inj] at hy
    have g1 := h.1.occupied (List.mem_of_getElem? hx)
    have g8 := h.1.retries_le (List.mem_of_getElem? hx)
    subst hy
    split <;> exact ⟨rfl, rfl, by simp [g1], g8⟩
  · refine List.Pairwise.imp_of_mem ?_ (List.pairwise_of_forall (l := abortReady i q.slots) (R := fun _ _ => True) (by simp))
    intro x y hx hy _
    rw [SlotState.rank_finished (hf x hx), SlotState.rank_finished (hf y hy)]
    omega

theorem abortJob_queueSound {s : State} (h : s.queue.Ordered) : QueueSound (abortJob s) := by
  refine WorkQueue.AtRest.sound ?_
  simpa [abortJob] using abortReady_atRest (finishActive_atRest (final := .aborted) (residual := none) (missing := false)
    (fault := s.abortFault) h rfl) _

/-! ## What Job Control hears of -/

theorem copy_queueSound {s : State} (h : QueueSound s) (k : Nat) (c : Option Correction) :
    QueueSound (s.setQueue (s.queue.modify k fun y => { y with copy := c })) := by
  refine h.requeue (h.1.modify_rank (fun y hy => ?_) fun _ => rfl) (fun y hy _ => ?_) rfl rfl
  · have g1 := h.1.occupied (List.mem_of_getElem? hy)
    have g8 := h.1.retries_le (List.mem_of_getElem? hy)
    exact ⟨rfl, rfl, g1, g8⟩
  · obtain ⟨i, hi⟩ := List.mem_iff_getElem?.1 hy
    obtain ⟨z, hz, rfl⟩ := getElem?_modify_eq hi
    exact ⟨z, List.mem_of_getElem? hz, by split <;> rfl⟩

theorem inPosition_queueSound {s : State} (h : QueueSound s) : QueueSound (inPosition s) := by
  unfold inPosition
  split
  · exact h
  · next hs =>
    have hs : s.job.state = .running := by by_contra hc; exact hs (.inl hc)
    split
    · next k x _ _ =>
      split
      · exact raiseFault_queueSound (copy_queueSound h k none)
      · next inputs _ =>
        refine (copy_queueSound h k (some (correctionOf s.params x.entry x.chainPos s.travel.p inputs))).toPhase hs ?_ ?_ ?_
        · simp
        · simp [setPhase, hs]
        · simp [setPhase]
    · exact h

theorem unitDone_queueSound {u : UnitId} {s : State} (h : QueueSound s) : QueueSound (unitDone u s) := by
  unfold unitDone
  split
  · exact testEndOfWork_queueSound (h.congr rfl rfl rfl)
  · exact testEndOfWork_queueSound (h.congr rfl rfl rfl)
  · exact h
  · exact h

theorem unitSet_queueSound {s : State} (h : QueueSound s) : QueueSound (unitSet s) := by
  unfold unitSet
  split
  · next hc => exact h.toPhase hc.1 (by simp) (by simp [setPhase, hc.1]) (by simp [setPhase])
  · exact h

/-- The residual goes into a finished slot, which stays finished. -/
theorem writeHeldResidual_atRest {r : Option (Int × Int)} {s : State} (h : s.queue.AtRest) :
    (writeHeldResidual r s).queue.AtRest := by
  unfold writeHeldResidual
  split
  · exact h
  · refine ⟨h.1.modify_rank (fun y hy => ?_) fun _ => rfl, noneWorking_modify (fun _ y _ hy => h.2 y (List.mem_of_getElem? hy))
      fun y hy => h.2 y (List.mem_of_getElem? hy)⟩
    have g1 := h.1.occupied (List.mem_of_getElem? hy)
    have g8 := h.1.retries_le (List.mem_of_getElem? hy)
    exact ⟨rfl, rfl, g1, g8⟩

theorem lluReportsOpen_queueSound {r : Option (Int × Int)} {s : State} (h : QueueSound s) : QueueSound (lluReportsOpen r s) := by
  unfold lluReportsOpen
  split
  · next hc =>
    split
    · exact finishTests_queueSound (by simpa using finishActive_atRest h.1 (workedFinal_finished s)) (by simp [baseToTarget, hc.1])
    · next hn =>
      exact pauseOrNext_queueSound (writeHeldResidual_atRest (h.atRest_of_noActive (WorkQueue.activeSlot_none.1 hn)))
        (by simpa using hc.1)
  · exact h

theorem giveUpHold_queueSound {s : State} (h : QueueSound s) : QueueSound (giveUpHold s) := by
  obtain ⟨ho, h1, h2, h3, -⟩ := h
  have hj : (giveUpHold s).job.state = s.job.state ∧ (giveUpHold s).job.phase = some .releasing := by simp [giveUpHold, setPhase]
  rw [QueueSound, hj.1, hj.2]
  simp only [giveUpHold_keeps]
  exact ⟨ho, h1, h2, fun hr => ⟨(h3 hr).1, by simp⟩, by simp⟩

/-- A load that Job Control acts on finds no entry at work. -/
theorem entryLoaded_queueSound {s : State} (h : QueueSound s) : QueueSound (entryLoaded s) := by
  unfold entryLoaded
  split
  · next hc =>
    have hr : s.queue.AtRest := by
      rcases hc.2 with hp | ⟨-, hn⟩
      · exact h.atRest_starved (.inl hc.1) hp
      · exact h.atRest_of_noActive (Option.isNone_iff_eq_none.1 hn)
    split
    · next hk => exact activateSlot_queueSound hr hk hc.1
    · exact h
  · exact h

end Sys2Proof.Machine

namespace Sys2Proof.Machine

/-! ## Every command keeps the ring and the job in step -/

/-- The taken frame of a request, whatever its kind: an owner that keeps the ring and the job in step is all that counts. -/
theorem takeRequest_queueSound {f : Frame} {fits reading : Bool} {owner : State → State × Answer} {s : State} (h : QueueSound s)
    (ho : ∀ t, QueueSound t → QueueSound (owner t).1) : QueueSound (takeRequest f fits reading owner s) :=
  takeRequest_holds (fun _ _ ht => ht.congr rfl rfl rfl) h fun _ _ ht => ho _ ht

theorem readRequest_queueSound {f : Frame} {fits : Bool} {a : State → Answer} {s : State} (h : QueueSound s) :
    QueueSound (readRequest f fits a s) := takeRequest_queueSound h fun _ ht => ht

theorem parametersOwner_queueSound {body : List Byte} {s : State} (h : QueueSound s) : QueueSound (parametersOwner body s).1 := by
  unfold parametersOwner
  split
  · exact h
  · dsimp only
    split <;> exact h.congr (by simp) (by simp) (by simp)

theorem loadOwner_queueSound {body : List Byte} {s : State} (h : QueueSound s) : QueueSound (loadOwner body s).1 := by
  unfold loadOwner
  dsimp only
  split
  · exact h
  · next hr => exact (entryLoaded_queueSound (load_queueSound h hr)).congr (by simp) (by simp) (by simp)

theorem clearOwner_queueSound {s : State} (h : QueueSound s) : QueueSound (clearOwner s).1 := by
  unfold clearOwner
  split
  · exact h
  · exact WorkQueue.AtRest.sound (by simpa using cleared_atRest)

theorem startOwner_queueSound {s : State} (h : QueueSound s) : QueueSound (startOwner s).1 := by
  unfold startOwner
  split
  · exact h
  · next hi =>
    have hr : s.queue.AtRest := h.atRest_idle (not_not.1 hi)
    split
    · exact h
    · next k hk =>
      have ha : QueueSound (activateSlot k (prepareJob s)) :=
        activateSlot_queueSound (by simpa [prepareJob] using hr) (by simpa [prepareJob] using hk) rfl
      split
      · exact h
      · split
        · exact h
        · exact ha.congr (by simp) (by simp) (by simp)

theorem pauseOwner_queueSound {s : State} (h : QueueSound s) : QueueSound (pauseOwner s).1 := by
  unfold pauseOwner
  split
  · exact h
  · next hs =>
    have hs : s.job.state = .running := not_not.1 hs
    split
    · next hp =>
      have hj : (pauseNow s).job.state = .paused ∧ (pauseNow s).job.phase = s.job.phase := by simp [pauseNow]
      refine ⟨by simpa [pauseNow] using h.1, ?_, ?_, fun _ => ?_, ?_⟩
      · simp [hj.1]
      · simp [hj.1]
      · simpa [pauseNow] using ⟨h.noFaulted (.inl hs), fun hp => (h.atRest_starved (.inl hs) hp).2⟩
      · rcases hp with hp | hp <;> simp [hj.2, hp]
    · exact h.congr rfl rfl rfl

/-- What the phase decides when a paused job runs again. -/
theorem resumePhase_queueSound {s : State} (h : QueueSound s) (hs : s.job.state = .paused) :
    QueueSound (resumePhase (s.setJob { s.job with state := .running })) := by
  have run (hp : s.job.phase ≠ some .starved) : QueueSound (s.setJob { s.job with state := .running }) :=
    queueSound_running h.1 rfl (h.noFaulted (.inr hs)) hp
  unfold resumePhase
  simp only [State.setJob_reads]
  split
  · next hp => exact (run (by simp [hp])).congr (by simp) (by simp) (by simp)
  · next hp =>
    have hr := h.atRest_starved (.inr hs) hp
    split
    · next hk => exact activateSlot_queueSound (by simpa using hr) (by simpa using hk) rfl
    · exact WorkQueue.AtRest.sound (by simpa using hr)
  · next hp => exact nextOrStarve_queueSound (by simpa using h.atRest_paused hs hp) rfl
  all_goals next hp => exact run (by simp [hp])

theorem resumeOwner_queueSound {s : State} (h : QueueSound s) : QueueSound (resumeOwner s).1 := by
  unfold resumeOwner
  split
  · exact h
  · next hs => exact (resumePhase_queueSound h (not_not.1 hs)).congr (by simp) (by simp) (by simp)

/-- The FAULTED slot stands at the place named. -/
theorem State.faultedSlot_some {s : State} {k : Nat} {x : Slot} (h : s.faultedSlot = some (k, x)) :
    s.queue.slots[k]? = some x ∧ x.state = .faulted := by
  unfold State.faultedSlot at h
  split at h
  · next hk hx =>
    obtain ⟨y, hy, hky, -⟩ := WorkQueue.active_some hk
    split at h <;> simp_all
  · cases h

/-- With the job HALTED and no slot FAULTED, no entry is at work. -/
theorem State.faultedSlot_none {s : State} (h : QueueSound s) (hs : s.job.state = .halted) (hf : s.faultedSlot = none) :
    s.queue.AtRest := by
  cases hk : s.queue.activePos with
  | none => exact h.atRest_of_noActive hk
  | some k =>
    obtain ⟨x, hx, hkx, hw⟩ := WorkQueue.active_some hk
    have := h.noActive hs x (List.mem_of_getElem? hkx)
    rcases SlotState.working_iff.1 hw with hw | hw
    · exact absurd hw this
    · simp [State.faultedSlot, hk, hx, hw] at hf

theorem retryOwner_queueSound {s : State} (h : QueueSound s) : QueueSound (retryOwner s).1 := by
  unfold retryOwner
  split
  · exact h
  · split
    · exact h
    · next k x hf =>
      obtain ⟨hx, hxf⟩ := State.faultedSlot_some hf
      have hsplit := h.1.splitsAt_working hx (by simp [hxf, SlotState.working])
      split
      · exact h
      · split
        · exact h
        · next hret =>
          have ho : (s.queue.modify k fun y => { y with retries := y.retries + 1 }).Ordered := by
            refine h.1.modify_split hsplit fun y hy => ?_
            obtain rfl : x = y := Option.some_inj.1 (hx.symm.trans hy)
            exact ⟨rfl, rfl, by simp [hxf], by simp only; omega⟩
          have ha : QueueSound (activate k (leaveHalt (s.setQueue (s.queue.modify k fun y => { y with retries := y.retries + 1 })))) :=
            activate_queueSound (x := { x with retries := x.retries + 1 }) (by simpa [leaveHalt] using ho)
              (by simpa [leaveHalt] using hsplit.modify) (by simp [leaveHalt, WorkQueue.modify, hx]) rfl
          exact (testEndOfWork_queueSound ha).congr (by simp [activateSlot]) (by simp [activateSlot]) (by simp [activateSlot])

theorem skipOwner_queueSound {s : State} (h : QueueSound s) : QueueSound (skipOwner s).1 := by
  unfold skipOwner
  split
  · exact h
  · next hs =>
    split
    · exact h
    · split
      · next x hf =>
        refine (finishTests_queueSound ?_ rfl).congr (issueDrive_keeps _).2.1 (by simp) (by simp)
        simpa [leaveHalt, skipFaulted] using finishActive_atRest (final := .skipped) (by simpa using h.1) rfl
      · next hf =>
        refine (nextOrStarve_queueSound ?_ rfl).congr (issueDrive_keeps _).2.1 (by simp) (by simp)
        simpa [leaveHalt] using State.faultedSlot_none h (not_not.1 hs) hf

theorem abortOwner_queueSound {s : State} (h : QueueSound s) : QueueSound (abortOwner s).1 := by
  unfold abortOwner
  split
  · exact h
  · exact abortJob_queueSound h.1

theorem parkAllOwner_queueSound {s : State} (h : QueueSound s) : QueueSound (parkAllOwner s).1 := by
  unfold parkAllOwner
  split
  · exact h.congr (by simp) (by simp) (by simp)
  · exact h

theorem startItem_queueSound {gi : Nat × Nat} {rest : List (Nat × Nat)} {s : State} (h : QueueSound s) :
    QueueSound (startItem gi rest s) := by
  unfold startItem
  dsimp only
  split
  · exact h.congr (by simp) (by simp) (by simp)
  · split
    · unfold destroyMemory
      split
      · exact WorkQueue.AtRest.sound (by simpa using cleared_atRest)
      · exact h.congr rfl rfl rfl
    · exact h.congr rfl rfl rfl

theorem selfTestOwner_queueSound {body : List Byte} {s : State} (h : QueueSound s) : QueueSound (selfTestOwner body s).1 := by
  unfold selfTestOwner
  dsimp only
  split
  · exact h
  · split
    · exact h
    · split
      · exact h
      · exact startItem_queueSound (h.congr rfl rfl rfl)

theorem restartOwner_queueSound {s : State} (h : QueueSound s) : QueueSound (restartOwner s).1 := by
  unfold restartOwner
  split
  · exact h
  · exact h.congr rfl rfl rfl

theorem openOwner_queueSound {body : List Byte} {s : State} (h : QueueSound s) : QueueSound (openOwner body s).1 := by
  unfold openOwner
  dsimp only
  (repeat' split) <;> exact h.congr rfl rfl rfl

theorem segmentOwner_queueSound {body : List Byte} {s : State} (h : QueueSound s) : QueueSound (segmentOwner body s).1 := by
  unfold segmentOwner
  dsimp only
  split <;> exact h.congr rfl rfl rfl

theorem closeOwner_queueSound {s : State} (h : QueueSound s) : QueueSound (closeOwner s).1 := by
  unfold closeOwner
  split
  · exact h
  · exact h.congr rfl rfl rfl

end Sys2Proof.Machine

namespace Sys2Proof.Machine

/-! ### Units and the LLU -/

theorem unitEvent_queueSound {s : State} (h : QueueSound s) : QueueSound (unitEvent s) := h.congr (by simp) (by simp) (by simp)

theorem lluEvent_queueSound {s : State} (h : QueueSound s) : QueueSound (lluEvent s) := h.congr (by simp) (by simp) (by simp)

theorem shiftDone_queueSound {u : UnitId} {s : State} (h : QueueSound s) : QueueSound (shiftDone u s) := by
  unfold shiftDone
  dsimp only
  split
  · exact h.congr (by simp) (by simp) (by simp)
  · exact unitSet_queueSound (h.congr (by simp) (by simp) (by simp))

theorem parkDone_queueSound {u : UnitId} {s : State} (h : QueueSound s) : QueueSound (parkDone u s) := by
  have hp : QueueSound (parkUnit u (endMotion u s)) := h.congr (by simp) (by simp) (by simp)
  unfold parkDone
  dsimp only
  split
  · exact unitDone_queueSound hp
  · exact hp

theorem unitStuck_queueSound {u : UnitId} {s : State} (h : QueueSound s) : QueueSound (unitStuck u s) :=
  unitEvent_queueSound (raiseFault_queueSound (h.congr (by simp) (by simp) (by simp)))

theorem insertionExpired_queueSound {u : UnitId} {s : State} (h : QueueSound s) : QueueSound (insertionExpired u s) := by
  unfold insertionExpired
  dsimp only
  split
  · exact h.congr (by simp) (by simp) (by simp)
  · unfold blockInsertion
    dsimp only
    split
    · exact raiseFault_queueSound (h.congr (by simp) (by simp) (by simp))
    · exact h.congr (by simp) (by simp) (by simp)

theorem clampDone_queueSound {s : State} (h : QueueSound s) : QueueSound (clampDone s) := by
  unfold clampDone
  dsimp only
  split
  · exact raiseFault_queueSound (h.congr (by simp) (by simp) (by simp))
  · exact h.congr (by simp) (by simp) (by simp)

theorem reachDemand_queueSound {s : State} (h : QueueSound s) : QueueSound (reachDemand s) := h.congr (by simp) (by simp) (by simp)

/-! ### Samples and travel -/

theorem endMeasurement_queueSound {r : Correction} {v : Option (Int × Int)} {s : State} (h : QueueSound s) :
    QueueSound (endMeasurement r v s) := lluReportsOpen_queueSound (h.congr rfl rfl rfl)

theorem settleSample_queueSound {s : State} (h : QueueSound s) : QueueSound (settleSample s) := by
  have hc : ∀ f, QueueSound (changeLlu f s) := fun f => h.congr rfl rfl rfl
  unfold settleSample
  split
  · split
    · exact endMeasurement_queueSound h
    · dsimp only
      split
      · exact hc _
      · exact endMeasurement_queueSound (hc _)
  all_goals exact h

theorem lluSample_queueSound {before : Channels ChannelRec} {s : State} (h : QueueSound s) : QueueSound (lluSample before s) := by
  have hf : QueueSound (formAchieved s) := h.congr (by simp) (by simp) (by simp)
  have hl : QueueSound (lluSensorLost s) := raiseFault_queueSound (h.congr (by simp) (by simp) (by simp))
  unfold lluSample
  split
  · split
    · exact h
    · split
      · exact hl
      · exact h
  · split
    · exact hf
    · split
      · exact hl
      · unfold liftSample
        split
        · exact testEndOfWork_queueSound (reachDemand_queueSound hf)
        · exact hf
  · split
    · exact h
    · exact settleSample_queueSound h
  all_goals exact h

theorem takeSampleStep_queueSound {x : Channels Reading} {s : State} (h : QueueSound s) : QueueSound (takeSampleStep x s) := by
  have hl : QueueSound (lluSample s.meas.channels (updateChannels x s)) :=
    lluSample_queueSound (h.congr (by simp) (by simp) (by simp))
  exact hl.congr (by simp [takeSampleStep]) (by simp [takeSampleStep]) (by simp [takeSampleStep])

theorem travelFault_queueSound {code : FaultCode} {s : State} (h : QueueSound s) : QueueSound (travelFault code s) :=
  raiseFault_queueSound (h.congr (by simp) (by simp) (by simp))

theorem afterStep_queueSound {saturated : Bool} {s : State} (h : QueueSound s) : QueueSound (afterStep saturated s) := by
  unfold afterStep
  split
  · split
    · exact travelFault_queueSound h
    · exact h
  · split
    · split
      · exact travelFault_queueSound h
      · exact h
    · exact h.congr rfl rfl rfl

theorem judgeRest_queueSound {s : State} (h : QueueSound s) : QueueSound (judgeRest s) := by
  unfold judgeRest
  dsimp only
  split
  · exact inPosition_queueSound (h.congr rfl rfl rfl)
  · split
    · split
      · exact travelFault_queueSound h
      · exact h.congr rfl rfl rfl
    · exact h.congr rfl rfl rfl

theorem conclude_queueSound {s : State} (h : QueueSound s) : QueueSound (conclude (followRetreat s)) :=
  h.congr (by simp) (by simp) (by simp)

theorem judgeItem_queueSound {s : State} (h : QueueSound s) : QueueSound (judgeItem s) := by
  unfold judgeItem
  dsimp only
  split
  · exact h.congr (by simp) (by simp) (by simp)
  · split
    · exact h.congr (by simp) (by simp) (by simp)
    · exact startItem_queueSound (h.congr (by simp) (by simp) (by simp))

/-! ### The step -/

/-- A guarded event keeps the ring and the job in step when what it does keeps them. -/
theorem ite_queueSound {p : Prop} [Decidable p] {s t : State} (h : QueueSound s) (ht : QueueSound t) :
    QueueSound (if p then t else s) := by
  split
  · exact ht
  · exact h

theorem restartBlocks_queue (s : State) : (restartBlocks s).queue = .cleared := by simp [restartBlocks]

/-- Whatever a command answers, the ring and the job are in step when they were before. -/
theorem exec_queueSound (c : Instr) {s t : State} (h : QueueSound s) (ht : exec c s = .next t) : QueueSound t := by
  cases c with
  | powerOn park clampsOpen stopLine =>
    cases ht
    exact WorkQueue.AtRest.sound (by simpa using cleared_atRest)
  | identify tag body => cases ht; exact readRequest_queueSound h
  | readStatus tag body => cases ht; exact readRequest_queueSound h
  | setParameters tag body => cases ht; exact takeRequest_queueSound h fun _ => parametersOwner_queueSound
  | readParameters tag body => cases ht; exact readRequest_queueSound h
  | loadEntry tag body => cases ht; exact takeRequest_queueSound h fun _ => loadOwner_queueSound
  | collectResults tag body => cases ht; exact takeRequest_queueSound h fun _ => collect_queueSound _
  | readQueue tag body => cases ht; exact readRequest_queueSound h
  | clearQueue tag body => cases ht; exact takeRequest_queueSound h fun _ => clearOwner_queueSound
  | startJob tag body => cases ht; exact takeRequest_queueSound h fun _ => startOwner_queueSound
  | pauseJob tag body => cases ht; exact takeRequest_queueSound h fun _ => pauseOwner_queueSound
  | resumeJob tag body => cases ht; exact takeRequest_queueSound h fun _ => resumeOwner_queueSound
  | retryEntry tag body => cases ht; exact takeRequest_queueSound h fun _ => retryOwner_queueSound
  | skipEntry tag body => cases ht; exact takeRequest_queueSound h fun _ => skipOwner_queueSound
  | abortJob tag body => cases ht; exact takeRequest_queueSound h fun _ => abortOwner_queueSound
  | parkAll tag body => cases ht; exact takeRequest_queueSound h fun _ => parkAllOwner_queueSound
  | openTable tag body => cases ht; exact takeRequest_queueSound h fun _ => openOwner_queueSound
  | tableSegment tag body => cases ht; exact takeRequest_queueSound h fun _ => segmentOwner_queueSound
  | closeTable tag body => cases ht; exact takeRequest_queueSound h fun _ => closeOwner_queueSound
  | readTable tag body => cases ht; exact readRequest_queueSound h
  | readMeasurement tag body => cases ht; exact readRequest_queueSound h
  | readTrail tag body => cases ht; exact readRequest_queueSound h
  | selfTest tag body => cases ht; exact takeRequest_queueSound h fun _ => selfTestOwner_queueSound
  | restart tag body => cases ht; exact takeRequest_queueSound h fun _ => restartOwner_queueSound
  | unknownKindRequest kind tag body => cases ht; exact ite_queueSound h (h.congr (by simp) (by simp) (by simp))
  | frameReceived b => cases ht; exact ite_queueSound h (h.congr rfl rfl rfl)
  | interByteTimeout => cases ht; exact h.congr rfl rfl rfl
  | frameSent => cases ht; exact h.congr rfl rfl rfl
  | restartEffect =>
    cases ht
    exact ite_queueSound h (WorkQueue.AtRest.sound (by simpa [restartBlocks_queue] using cleared_atRest))
  | sampleArrival sample => cases ht; exact takeSampleStep_queueSound h
  | sampleTimerExpiry => cases ht; exact ite_queueSound h (takeSampleStep_queueSound h)
  | odometerStep mm => cases ht; exact conclude_queueSound (afterStep_queueSound (h.congr rfl rfl rfl))
  | positionSettleExpiry => cases ht; exact ite_queueSound h (conclude_queueSound (judgeRest_queueSound h))
  | stopLineAssertion =>
    cases ht
    refine ite_queueSound (conclude_queueSound (raiseFault_queueSound (h.congr ?_ ?_ ?_))) h <;> simp [setStopLine]
  | stopLineRelease =>
    cases ht
    refine ite_queueSound h (h.congr ?_ ?_ ?_) <;> simp [releaseStopLine, setStopLine]
  | unitGrant u => cases ht; exact h.congr (by simp) (by simp) (by simp)
  | lluGrant => cases ht; exact h.congr (by simp) (by simp) (by simp)
  | shiftReached u n => cases ht; exact ite_queueSound h (unitEvent_queueSound (shiftDone_queueSound h))
  | depthReached u n => cases ht; exact ite_queueSound h (h.congr (by simp) (by simp) (by simp))
  | tinesOpen u n => cases ht; exact ite_queueSound h (h.congr (by simp) (by simp) (by simp))
  | atMid u n => cases ht; exact ite_queueSound h (h.congr (by simp) (by simp) (by simp))
  | atPark u n => cases ht; exact ite_queueSound h (unitEvent_queueSound (parkDone_queueSound h))
  | shiftTimeout u => cases ht; exact ite_queueSound h (unitStuck_queueSound h)
  | insertionTimerExpiry u => cases ht; exact ite_queueSound h (unitEvent_queueSound (insertionExpired_queueSound h))
  | squeezeTimerExpiry u => cases ht; exact ite_queueSound h (h.congr (by simp) (by simp) (by simp))
  | openTimeout u => cases ht; exact ite_queueSound h (unitStuck_queueSound h)
  | raiseMidTimeout u => cases ht; exact ite_queueSound h (unitStuck_queueSound h)
  | raiseParkTimeout u => cases ht; exact ite_queueSound h (unitStuck_queueSound h)
  | clamped n => cases ht; exact ite_queueSound h (lluEvent_queueSound (clampDone_queueSound h))
  | forceLimit n =>
    cases ht
    exact ite_queueSound h (lluEvent_queueSound (testEndOfWork_queueSound (reachDemand_queueSound (h.congr rfl rfl rfl))))
  | unclamped n => cases ht; exact ite_queueSound h (h.congr (by simp) (by simp) (by simp))
  | clampTimeout =>
    cases ht
    exact ite_queueSound h (lluEvent_queueSound (raiseFault_queueSound (h.congr (by simp) (by simp) (by simp))))
  | liftTimerExpiry =>
    cases ht
    exact ite_queueSound h (lluEvent_queueSound (testEndOfWork_queueSound (reachDemand_queueSound (h.congr rfl rfl rfl))))
  | unclampTimeout =>
    cases ht
    exact ite_queueSound h (lluEvent_queueSound (raiseFault_queueSound (h.congr (by simp) (by simp) (by simp))))
  | joinHoldExpiry => cases ht; exact ite_queueSound h (lluEvent_queueSound (giveUpHold_queueSound h))
  | lluSettleExpiry => cases ht; exact ite_queueSound h (h.congr rfl rfl rfl)
  | valveReadback valve position => cases ht; exact ite_queueSound h (h.congr rfl rfl rfl)
  | selfTestItemExpiry =>
    cases ht
    exact ite_queueSound h ((judgeItem_queueSound h).congr (by simp) (by simp) (by simp))
  | memoryMismatch wordRead wordWritten => cases ht; exact ite_queueSound h (h.congr (by simp) (by simp) (by simp))
  | byteReceived b => cases ht; exact h.congr rfl rfl rfl

end Sys2Proof.Machine

section
open Sys2Proof Sys2Proof.Machine

/-- Settles O19: whatever the command at the front is, `QueueSound` is kept by its one change of the ring or of the job. -/
theorem stepKeepsQueueInOrder : Obligations.StepKeepsQueueInOrder := by
  unfold Obligations.StepKeepsQueueInOrder
  intro s t h ht
  unfold step at ht
  split at ht
  · cases ht; exact h
  · next c rest _ => exact exec_queueSound c (s := { s with pending := rest }) h ht

end

namespace Sys2Proof.Machine

/-! ## Requests whose owner only answers, and resets -/

/-- A request whose owner changes nothing answers, and changes the link alone. -/
theorem takeRequest_answers {f : Frame} {reading : Bool} {owner : State → State × Answer} {s : State} {a : Answer}
    (h : Takeable s f) (ht : s.test.running = true → reading = true)
    (ho : owner (s.setLink s.link.taken) = (s.setLink s.link.taken, a)) :
    ∃ t, Host.Outcome.next (φ := Fault) (ρ := Refusal) (takeRequest f true reading owner s) = .next t ∧
      t = { s with link := t.link } ∧ Answered s t f a [] := by
  refine ⟨_, rfl, ?_⟩
  rw [takeRequest_owner h ht, ho]
  exact ⟨rfl, answer_answered rfl⟩

/-- A reading request answers at any time. -/
theorem readRequest_answers {f : Frame} {a : State → Answer} {s : State} (h : Takeable s f) :
    ∃ t, Host.Outcome.next (φ := Fault) (ρ := Refusal) (readRequest f true a s) = .next t ∧
      t = { s with link := t.link } ∧ Answered s t f (a (s.setLink s.link.taken)) [] :=
  takeRequest_answers h (fun _ => rfl) rfl

theorem SlotState.working_eq (st : SlotState) : st.working = (st == .active || st == .faulted) := by
  cases st <;> rfl

/-- The active slot's index, in the words of R14. -/
theorem WorkQueue.activeIndex_eq (q : WorkQueue) :
    q.activeIndex = (q.slots.findIdx? fun x => x.state == .active || x.state == .faulted).map fun k => (q.oldest + k) % 64 := by
  simp only [WorkQueue.activeIndex, WorkQueue.activePos, SlotState.working_eq]
  rfl

theorem identity_revision : 65 ≤ identity.revision.toNat ∧ identity.revision.toNat ≤ 90 := by
  have := Config.hardwareRevision.isLt
  simp only [identity, BitVec.toNat_ofNat]
  omega

/-- What READ STATUS reports, read from the state before the take: the frame taken no longer waits (R179, R184). -/
theorem statusReport_taken (s : State) : (s.setLink s.link.taken).statusReport =
    { s.statusReport with framesWaiting := s.link.input.length - 1 } := by
  simp [State.statusReport, Link.taken, State.jobStatus, State.gateOpen]

/-- What READ QUEUE reports, with the active slot in the words of R14 (R20). -/
theorem queueReport_eq (q : WorkQueue) : q.report =
    { counts := [64 - q.slots.length, q.countOf .ready, q.countOf .active, q.countOf .faulted,
        q.countOf .done, q.countOf .partDone, q.countOf .skipped, q.countOf .aborted]
      oldest := if q.slots.length = 0 then none else some q.oldest
      active := (q.slots.findIdx? fun x => x.state == .active || x.state == .faulted).map fun k => (q.oldest + k) % 64
      tail := (q.oldest + q.slots.length) % 64
      lastNumber := q.slots.getLast?.map (·.entry.number)
      newest := q.slots.getLast?.map fun x => (x.entry.joinedNext, x.chainPos) } := by
  simp [WorkQueue.report, WorkQueue.activeIndex_eq, queueSlots, WorkQueue.tail, WorkQueue.index, WorkQueue.newest]

theorem defaultParams_inRange : Params.default.InRange := by
  show ∀ n, n < 21 → ∀ v ∈ Params.default.values[n]?, (paramRange n).1 ≤ v ∧ v ≤ (paramRange n).2
  decide

theorem initialChannel_eq (c : Channel) : Measurement.initial.channels.get c = .lostEmpty := by
  cases c with
  | press u => cases u <;> rfl
  | _ => rfl

theorem initialChannel_sound (c : Channel) : (Measurement.initial.channels.get c).Sound c := by
  rw [initialChannel_eq]
  exact ⟨rfl, by simp [ChannelRec.lostEmpty]⟩

end Sys2Proof.Machine

section
open Sys2Proof Sys2Proof.Machine

/-- Settles O3: the blocks are written out in POWER_ON, and its one report is formed and begun at once. -/
theorem powerOnSetsEveryBlock : Obligations.PowerOnSetsEveryBlock := by
  unfold Obligations.PowerOnSetsEveryBlock
  intro park clampsOpen stopLine s
  refine ⟨_, rfl, rfl, rfl, rfl, rfl, rfl, rfl, initialChannel_eq, rfl, rfl, fun u => ?_, rfl, rfl, rfl, rfl, rfl, rfl, rfl, rfl⟩
  exact Quad.get_map TUnit.atPowerOn park u

/-- Settles O4, block by block at the concrete reset state. -/
theorem resetIsSound : Obligations.ResetIsSound := by
  unfold Obligations.ResetIsSound
  refine ⟨?_, ?_, rfl, ?_, queueSound_of_test (by decide), workhead_of_test (by decide), ?_, rfl⟩
  · exact ⟨by unfold Arbiter.Sound; decide, rfl, by decide, by decide⟩
  · exact ⟨⟨by decide, trivial⟩, by decide, by decide, by decide, by decide, by decide, by decide⟩
  · exact ⟨by decide, by decide⟩
  · refine ⟨defaultParams_inRange, initialChannel_sound, ?_, by unfold TravelSound; simp [State.reset, Travel.initial, Job.atPowerOn], ?_⟩
    · exact ⟨by decide, by decide, List.Pairwise.nil, by simp [State.reset]⟩
    · refine ⟨by decide, by decide, ?_, ?_, ?_, by decide, by decide⟩ <;> simp [State.reset, DesignTable.empty]

/-- Settles O12: a reading request's owner answers from the state that the take leaves, which differs in the link alone. -/
theorem readingRequestsAnswer : Obligations.ReadingRequestsAnswer := by
  unfold Obligations.ReadingRequestsAnswer
  refine ⟨identity.revision, identity_revision.1, identity_revision.2, fun tag i s => ⟨?_, ?_, ?_, ?_, ?_, ?_, ?_⟩⟩ <;> intro h
  · exact readRequest_answers h
  · obtain ⟨t, ht, hs, ha⟩ := readRequest_answers (a := fun t => .status t.statusReport) h
    refine ⟨t, ht, hs, ?_⟩
    rw [statusReport_taken, State.statusReport, State.jobStatus, WorkQueue.activeIndex_eq] at ha
    exact ha
  · exact readRequest_answers h
  · obtain ⟨t, ht, hs, ha⟩ := readRequest_answers (a := fun t => .queue t.queue.report) h
    rw [queueReport_eq] at ha
    exact ⟨t, _, ht, hs, rfl, ha⟩
  · exact readRequest_answers h
  · exact readRequest_answers h
  · exact readRequest_answers h

/-- Settles O18: in IDLE the owner empties the ring, and counts what it held. -/
theorem clearFreesEverySlot : Obligations.ClearFreesEverySlot := by
  unfold Obligations.ClearFreesEverySlot
  intro tag s h ht hs
  have ho : clearOwner (s.setLink s.link.taken) =
      ((s.setLink s.link.taken).setQueue .cleared, .cleared s.queue.slots.length) := by
    simp [clearOwner, hs]
  refine ⟨_, rfl, ?_⟩
  rw [show noFields [] = true from rfl, takeRequest_owner h (by simp [ht]), ho]
  exact ⟨rfl, answer_answered rfl⟩

/-- Settles O17: `collectFront` takes the longest run of slots from the oldest end that may go, at most 6 of them. -/
theorem collectionFreesTheOldest : Obligations.CollectionFreesTheOldest := by
  unfold Obligations.CollectionFreesTheOldest
  intro tag s h ht
  obtain ⟨hq, hl, htakes, hstops⟩ := collectFront_spec s.heldUnderRelease 6 s.queue.slots
  refine ⟨_, s.heldUnderRelease, _, _, takesFront s.heldUnderRelease (collectFront s.heldUnderRelease 6 s.queue.slots).2, rfl, ?_,
    hq, hl, htakes, hstops, takesFront_iff _ _, ?_⟩
  · simp only [State.heldUnderRelease, Bool.and_eq_true, beq_iff_eq, Option.isNone_iff_eq_none, WorkQueue.activePos_none, and_assoc]
  · rw [show noFields [] = true from rfl, takeRequest_owner h (by simp [ht])]
    exact ⟨rfl, answer_answered rfl⟩

end

namespace Sys2Proof.Machine

/-! ## Refusals by the job state -/

/-- A body of a kind without fields fits when it is empty (R194). -/
theorem noFields_of_fits {kind tag : Word} {body : List Byte} (h : FitsKind ⟨kind, tag, body⟩) (h5 : kind ≠ 0x0005)
    (h3 : kind ≠ 0x0003) (hl : fixedLength kind.toNat = some 4) : noFields body = true := by
  simp only [FitsKind, if_neg h5, if_neg h3, hl, Option.some.injEq] at h
  simpa [noFields] using List.length_eq_zero_iff.1 (by omega)

/-- The link does not bear on the active slot or on the job: the FAULTED slot is absent when no entry is at work. -/
theorem State.faultedSlot_of_noneWorking {s : State} (h : NoneWorking s.queue) : s.faultedSlot = none := by
  simp [State.faultedSlot, WorkQueue.activePos_none.2 h]

/-- RETRY ENTRY needs a HALTED job with an entry at work. -/
theorem retryOwner_wrongState {s : State} (h : s.job.state ≠ .halted ∨ NoneWorking s.queue) :
    retryOwner s = (s, wrongState 0x000C s) := by
  unfold retryOwner
  split
  · rfl
  · next hs =>
    have hn : NoneWorking s.queue := h.resolve_left hs
    rw [State.faultedSlot_of_noneWorking hn]

/-- A request that changes something is refused by its owner, with no effect but the reply. -/
theorem request_refused {c : Instr} {f : Frame} {fits : Bool} {owner : State → State × Answer} {s : State} {a : Answer}
    (hfit : fits = true) (h : Takeable s f) (ht : s.test.running = false)
    (ho : owner (s.setLink s.link.taken) = (s.setLink s.link.taken, a))
    (he : exec c s = .next (takeRequest f fits false owner s)) :
    ∃ t, exec c s = .next t ∧ t = { s with link := t.link } ∧ Answered s t f a [] := by
  rw [he, hfit]
  exact takeRequest_answers h (by simp [ht]) ho

end Sys2Proof.Machine

section
open Sys2Proof Sys2Proof.Machine

/-- Settles O21: each owner tests the job state first, and its refusal changes nothing. -/
theorem wrongJobStateRefuses : Obligations.WrongJobStateRefuses := by
  unfold Obligations.WrongJobStateRefuses
  intro c f s hc h hf ht hw hu
  cases c <;> simp only [requestFrame, Option.some.injEq, reduceCtorEq] at hc <;> subst hc
  case setParameters tag body =>
    have hs : s.job.state ≠ .idle := by simpa using hw
    exact request_refused hf h ht (by simp [parametersOwner, wrongState, refuse, hs]) rfl
  case clearQueue tag body =>
    have hs : s.job.state ≠ .idle := by simpa using hw
    exact request_refused (noFields_of_fits hf (by decide) (by decide) rfl) h ht (by simp [clearOwner, wrongState, refuse, hs]) rfl
  case startJob tag body =>
    have hs : s.job.state ≠ .idle := by simpa using hw
    exact request_refused (noFields_of_fits hf (by decide) (by decide) rfl) h ht (by simp [startOwner, wrongState, refuse, hs]) rfl
  case selfTest tag body =>
    have hs : s.job.state ≠ .idle := by simpa using hw
    have hl : (body.length == 2) = true := by
      have : (6 : Nat) = 4 + body.length := Option.some_inj.1 hf
      simp only [beq_iff_eq]
      omega
    exact request_refused hl h ht (by simp [selfTestOwner, wrongState, refuse, hs]) rfl
  case restart tag body =>
    have hs : s.job.state ≠ .idle := by simpa using hw
    exact request_refused (noFields_of_fits hf (by decide) (by decide) rfl) h ht (by simp [restartOwner, wrongState, refuse, hs]) rfl
  case pauseJob tag body =>
    have hs : s.job.state ≠ .running := by simpa using hw
    exact request_refused (noFields_of_fits hf (by decide) (by decide) rfl) h ht (by simp [pauseOwner, wrongState, refuse, hs]) rfl
  case resumeJob tag body =>
    have hs : s.job.state ≠ .paused := by simpa using hw
    exact request_refused (noFields_of_fits hf (by decide) (by decide) rfl) h ht (by simp [resumeOwner, wrongState, refuse, hs]) rfl
  case retryEntry tag body =>
    have hs : s.job.state ≠ .halted ∨ NoneWorking s.queue := by simpa [NoneWorking] using hw
    exact request_refused (noFields_of_fits hf (by decide) (by decide) rfl) h ht
      (by rw [retryOwner_wrongState (by simpa using hs)]; simp [wrongState, refuse]) rfl
  case skipEntry tag body =>
    have hs : s.job.state ≠ .halted := by simpa using hw
    exact request_refused (noFields_of_fits hf (by decide) (by decide) rfl) h ht (by simp [skipOwner, wrongStateBare, refuse, hs]) rfl
  case abortJob tag body =>
    have hs : s.job.state = .idle := by simpa using hw
    exact request_refused (noFields_of_fits hf (by decide) (by decide) rfl) h ht (by simp [abortOwner, wrongStateBare, refuse, hs]) rfl
  case parkAll tag body =>
    have hs : s.job.state ≠ .idle ∧ s.job.state ≠ .halted := by simpa using hw
    exact request_refused (noFields_of_fits hf (by decide) (by decide) rfl) h ht (by simp [parkAllOwner, wrongStateBare, refuse, hs]) rfl
  case unknownKindRequest kind tag body => exact absurd rfl (hu kind tag body)
  all_goals simp at hw

end

namespace Sys2Proof.Machine

/-! ## The refusals of a load, in their order -/

theorem WorkQueue.loadRefusal_full {q : WorkQueue} {e : Entry} (h : 64 ≤ q.slots.length) :
    q.loadRefusal e = some (.queueFull, 64, none) := by
  simp [WorkQueue.loadRefusal, queueSlots, h]

theorem WorkQueue.loadRefusal_sequence {q : WorkQueue} {e : Entry} (hl : q.slots.length < 64) (hn : ¬ NumberInOrder q e) :
    q.loadRefusal e =
      some (.sequence, q.reference.1, some (if q.reference.2.1 then .equal else .greater)) := by
  rw [← q.numberFits_iff] at hn
  simp [WorkQueue.loadRefusal, queueSlots, hl, hn, q.refNumber_eq, WorkQueue.relation, q.refJoined_eq]

theorem WorkQueue.loadRefusal_chain {q : WorkQueue} {e : Entry} {d : Nat} (hl : q.slots.length < 64) (hn : NumberInOrder q e)
    (hc : FirstChainFault q e d) : q.loadRefusal e = some (.joinMismatch, d, none) := by
  rw [← q.numberFits_iff] at hn
  rw [← q.joinMismatch_some] at hc
  simp [WorkQueue.loadRefusal, queueSlots, hl, hn, hc]

theorem WorkQueue.loadRefusal_distance {q : WorkQueue} {e : Entry} (hl : q.slots.length < 64) (hn : NumberInOrder q e)
    (hc : ChainInOrder q e) (hd : 2500 < e.distance) : q.loadRefusal e = some (.distance, e.distance, none) := by
  rw [← q.numberFits_iff] at hn
  rw [← q.joinMismatch_none] at hc
  simp [WorkQueue.loadRefusal, queueSlots, hl, hn, hc, hd]

/-- A chain that is not in order has a first fault. -/
theorem firstChainFault_of_not {q : WorkQueue} {e : Entry} (h : ¬ ChainInOrder q e) : ∃ d, FirstChainFault q e d := by
  rw [← q.joinMismatch_none] at h
  obtain ⟨d, hd⟩ := Option.ne_none_iff_exists'.1 h
  exact ⟨d, (q.joinMismatch_some e d).1 hd⟩

/-- DISTANCE is the answer of a load that has passed every test before it. -/
theorem WorkQueue.tests_of_distance {q : WorkQueue} {e : Entry} {d : Nat} {r : Option Relation}
    (h : q.loadRefusal e = some (.distance, d, r)) : NumberInOrder q e ∧ ChainInOrder q e := by
  by_cases hl : q.slots.length < 64
  · by_cases hn : NumberInOrder q e
    · by_cases hc : ChainInOrder q e
      · exact ⟨hn, hc⟩
      · obtain ⟨d', hd'⟩ := firstChainFault_of_not hc
        simp [WorkQueue.loadRefusal_chain hl hn hd'] at h
    · simp [WorkQueue.loadRefusal_sequence hl hn] at h
  · simp [WorkQueue.loadRefusal_full (q := q) (e := e) (by omega)] at h

/-- A refused load answers with its refusal, and changes nothing else. -/
theorem load_refused {tag : Word} {body : List Byte} {s : State} {reason : Reason} {detail : Nat} {relation : Option Relation}
    (h : Takeable s ⟨0x0005, tag, body⟩) (hf : loadFits body = true) (ht : s.test.running = false)
    (hr : s.queue.loadRefusal (decodeEntry body) = some (reason, detail, relation)) :
    ∃ t, exec (.loadEntry tag body) s = .next t ∧ t = { s with link := t.link } ∧
      Answered s t ⟨0x0005, tag, body⟩ (.refused reason 0x0005 detail relation) [] :=
  request_refused hf h ht (by simp [loadOwner, hr]) rfl

/-! ## What stays of the ring and of the replies while Job Control acts -/

/-- The ring holds the same entries in the same places, and the same replies wait to be sent. -/
def EntriesStand (s t : State) : Prop :=
  t.queue.slots.map (·.entry) = s.queue.slots.map (·.entry) ∧ t.link.replies = s.link.replies

theorem EntriesStand.trans {s t u : State} (h : EntriesStand s t) (h' : EntriesStand t u) : EntriesStand s u :=
  ⟨h'.1.trans h.1, h'.2.trans h.2⟩

theorem EntriesStand.of_eq {s t : State} (hq : t.queue = s.queue) (hl : t.link.replies = s.link.replies) : EntriesStand s t :=
  ⟨by rw [hq], hl⟩

theorem EntriesStand.refl (s : State) : EntriesStand s s := .of_eq rfl rfl

@[simp] theorem Link.place_replies (l : Link) (r : Report) : (l.place r).replies = l.replies := by
  unfold Link.place
  split <;> rfl

@[simp] theorem Link.begin_replies (l : Link) : l.begin.replies = l.replies := by
  unfold Link.begin
  split
  · rfl
  · split
    · rfl
    · split
      · rfl
      · split <;> rfl

@[simp] theorem place_replies (r : Report) (s : State) : (place r s).link.replies = s.link.replies := Link.place_replies _ _

@[simp] theorem reportJob_replies (s : State) : (reportJob s).link.replies = s.link.replies := place_replies _ _

theorem map_entry_modify {l : List Slot} {k : Nat} {f : Slot → Slot} (h : ∀ x, (f x).entry = x.entry) :
    (l.modify k f).map (·.entry) = l.map (·.entry) := by
  refine List.ext_getElem? fun i => ?_
  rw [List.getElem?_map, List.getElem?_map, List.getElem?_modify]
  cases l[i]? with
  | none => rfl
  | some x =>
    simp only [Option.map_eq_map, Option.map_some, Option.some_inj]
    split
    · exact h x
    · rfl

theorem activate_entriesStand (k : Nat) (s : State) : EntriesStand s (activate k s) := by
  cases hx : s.queue.slots[k]? with
  | none => exact .of_eq (by simp [activate, hx]) (by simp)
  | some x =>
    obtain ⟨y, hq, -, he, -⟩ := activate_effect hx
    refine ⟨?_, by simp⟩
    rw [hq, WorkQueue.modify]
    simp only [modify_eq_set hx, List.map_set, he]
    refine List.ext_getElem? fun i => ?_
    rw [List.getElem?_set]
    split
    · next h =>
      subst h
      obtain ⟨hk, rfl⟩ := List.getElem?_eq_some_iff.1 hx
      simp [hk]
    · rfl

theorem finishActive_entriesStand {final : SlotState} {residual : Option (Int × Int)} {missing : Bool} {fault : Option FaultCode}
    {s : State} : EntriesStand s (finishActive final residual missing fault s) := by
  unfold finishActive
  dsimp only
  split
  · refine ⟨?_, by simp⟩
    simp only [place_keeps, State.setQueue_reads, WorkQueue.modify]
    exact map_entry_modify fun _ => rfl
  · exact .refl s

theorem finishHeld_entriesStand (s : State) : EntriesStand s (finishHeld s) := by
  have h : EntriesStand s (lluHold s) := .of_eq (by simp) (by simp)
  refine (h.trans (finishActive_entriesStand (final := s.workedFinal) (residual := none) (missing := false) (fault := none))).trans ?_
  exact .of_eq (by simp [finishHeld]) (by simp [finishHeld])

theorem endOfWork_entriesStand (n : Nat) (s : State) : EntriesStand s (endOfWork n s) := by
  induction n generalizing s with
  | zero => exact .refl s
  | succ n ih =>
    have hh := finishHeld_entriesStand s
    unfold endOfWork
    split
    · split
      · exact .refl s
      · split
        · split
          · exact hh.trans (.of_eq (by simp) (by simp [completeJob]))
          · split
            · exact (hh.trans (activate_entriesStand _ _)).trans (ih _)
            · exact hh
        · exact .of_eq (by simp) (by simp)
    · exact .refl s

theorem entryLoaded_entriesStand (s : State) : EntriesStand s (entryLoaded s) := by
  unfold entryLoaded
  split
  · split
    · exact (activate_entriesStand _ s).trans (endOfWork_entriesStand _ _)
    · exact .refl s
  · exact .refl s

/-- Whatever Job Control does with a loaded entry, its slot is the newest and its reply the last. -/
theorem loadOwner_accepted {body : List Byte} {s : State} (hr : s.queue.loadRefusal (decodeEntry body) = none) :
    (loadOwner body s).1.queue.slots.map (·.entry) = s.queue.slots.map (·.entry) ++ [clampEntry (decodeEntry body)] ∧
    (loadOwner body s).1.link.replies = s.link.replies := by
  have h := entryLoaded_entriesStand (s.setQueue (s.queue.load (clampEntry (decodeEntry body))))
  simp only [loadOwner, hr, issueDrive_keeps]
  exact ⟨h.1.trans (by simp [WorkQueue.load, readySlot]), h.2⟩

/-- The replies after an answer. -/
theorem answer_replies (f : Frame) (a : Answer) (s : State) :
    (answer f a s).link.replies = s.link.replies ++ [⟨false, replyKind f.kind, f.tag, a⟩] :=
  Link.begin_replies _

/-- A load that is taken: the reply that joins the list, after those that wait. -/
theorem exec_load_replies {tag : Word} {body : List Byte} {s : State} (h : Takeable s ⟨0x0005, tag, body⟩)
    (hf : loadFits body = true) (ht : s.test.running = false) :
    ∃ t, exec (.loadEntry tag body) s = .next t ∧ t.queue = (loadOwner body (s.setLink s.link.taken)).1.queue ∧
      t.link.replies = s.link.replies ++ [⟨false, 0x0085, tag, (loadOwner body (s.setLink s.link.taken)).2⟩] := by
  refine ⟨_, rfl, ?_⟩
  rw [hf, takeRequest_owner h (by simp [ht])]
  refine ⟨by simp, ?_⟩
  have hk : (loadOwner body (s.setLink s.link.taken)).1.link.replies = s.link.replies := by
    cases hr : s.queue.loadRefusal (decodeEntry body) with
    | none => exact (loadOwner_accepted (s := s.setLink s.link.taken) hr).2
    | some r => simp [loadOwner, hr, Link.taken]
  rw [answer_replies, hk]
  rfl

end Sys2Proof.Machine

section
open Sys2Proof Sys2Proof.Machine

/-- Settles O15: the refusal that `loadRefusal` gives in each case is the owner's answer. -/
theorem loadRefusalsInOrder : Obligations.LoadRefusalsInOrder := by
  unfold Obligations.LoadRefusalsInOrder
  intro tag body s h hf ht
  refine ⟨fun hl => ?_, fun hl hn => ?_, fun detail hl hn hc => ?_⟩
  · exact load_refused h hf ht (WorkQueue.loadRefusal_full hl)
  · exact load_refused h hf ht (WorkQueue.loadRefusal_sequence hl hn)
  · exact load_refused h hf ht (WorkQueue.loadRefusal_chain hl hn hc)

/-- Settles O14: the distance has its own refusal behind all others, and a stored entry keeps the distance sent. -/
theorem distanceIsTestedLast : Obligations.DistanceIsTestedLast := by
  unfold Obligations.DistanceIsTestedLast
  intro tag body s h hf ht hl
  obtain ⟨t, hexec, hq, hreplies⟩ := exec_load_replies h hf ht
  refine ⟨fun hn hc => ⟨fun hd => ?_, fun hd => ?_⟩, fun hj hn hd => ?_, fun t' kind detail relation ht' ha => ?_⟩
  · have hr : s.queue.loadRefusal (decodeEntry body) = none := WorkQueue.loadRefusal_none.2 ⟨hl, hn, hc, hd⟩
    have he := (loadOwner_accepted (s := s.setLink s.link.taken) hr).1
    rw [← hq] at he
    have hlast := congrArg List.getLast? he
    rw [List.getLast?_map, List.getLast?_concat, Option.map_eq_some_iff] at hlast
    obtain ⟨x, hx, hxe⟩ := hlast
    refine ⟨t, x, s.queue.tail, s.queue.nextChainPos, clampedCodes (decodeEntry body), hexec, ?_, hx, by rw [hxe]; rfl, ?_⟩
    · simpa using congrArg List.length he
    · rw [hreplies]
      simp [loadOwner, hr]
  · exact load_refused h hf ht (WorkQueue.loadRefusal_distance hl hn hc hd)
  · exact load_refused h hf ht (WorkQueue.loadRefusal_chain hl hn (.inl ⟨hj, by omega, rfl⟩))
  · obtain rfl : t = t' := Host.Outcome.next.inj (hexec.symm.trans ht')
    have hr : t.link.replies = s.link.replies ++ [⟨false, 0x0085, tag, .refused .distance kind detail relation⟩] := by
      rw [ha, Link.begin_replies]
      rfl
    have hans : (loadOwner body (s.setLink s.link.taken)).2 = .refused .distance kind detail relation := by
      simpa using hreplies.symm.trans hr
    unfold loadOwner at hans
    simp only [State.setLink_reads] at hans
    split at hans
    · next hrf =>
      obtain ⟨rfl, -⟩ := Answer.refused.inj hans
      exact WorkQueue.tests_of_distance hrf
    · cases hans

end

namespace Sys2Proof.Machine

/-! ## Reading the ring in the words of R14 -/

theorem OldestReady.readyPos {q : WorkQueue} {k : Nat} {x : Slot} (h : OldestReady q k x) : q.readyPos = some k :=
  WorkQueue.readyPos_eq_some.2 ⟨x, h⟩

theorem OnlyWorking.active {q : WorkQueue} {k : Nat} {x : Slot} (h : OnlyWorking q k x) :
    q.activePos = some k ∧ q.activeSlot = some x := by
  obtain ⟨hx, hw, ho⟩ := h
  have hp : q.activePos = some k := by
    obtain ⟨hk, rfl⟩ := List.getElem?_eq_some_iff.1 hx
    refine List.findIdx?_eq_some_iff_getElem.2 ⟨hk, SlotState.working_iff.2 hw, fun j hj => ?_⟩
    have := ho j _ (by omega) (List.getElem?_eq_getElem (by omega))
    rw [SlotState.working_iff]
    tauto
  obtain ⟨y, hy, hky, -⟩ := WorkQueue.active_some hp
  rw [hx, Option.some_inj] at hky
  exact ⟨hp, hky ▸ hy⟩

/-- No slot is ACTIVE or FAULTED once the one at place `k` is neither. -/
theorem OnlyWorking.set_noneWorking {q : WorkQueue} {k : Nat} {x y : Slot} (h : OnlyWorking q k x)
    (hy : y.state ≠ .active ∧ y.state ≠ .faulted) : NoneWorking { q with slots := q.slots.set k y } := by
  have := noneWorking_modify (q := q) (k := k) (f := fun _ => y) h.2.2 fun _ _ => hy
  rwa [WorkQueue.modify, modify_eq_set h.1] at this

theorem NoneWorking.activeIndex {q : WorkQueue} (h : NoneWorking q) : q.activeIndex = none := by
  simp [WorkQueue.activeIndex, WorkQueue.activePos_none.2 h]

theorem NoneWorking.activeSlot {q : WorkQueue} (h : NoneWorking q) : q.activeSlot = none :=
  WorkQueue.activeSlot_none.2 (WorkQueue.activePos_none.2 h)

/-- The READY slots of the ring are not touched by a change at a place that held and holds another state. -/
theorem set_ready_iff {l : List Slot} {k : Nat} {x y : Slot} (hx : l[k]? = some x) (hxr : x.state ≠ .ready) (hyr : y.state ≠ .ready)
    (j : Nat) (z : Slot) (hz : z.state = .ready) : (l.set k y)[j]? = some z ↔ l[j]? = some z := by
  rw [List.getElem?_set]
  split
  · next h =>
    subst h
    rw [hx]
    refine ⟨fun hc => ?_, fun hc => ?_⟩
    · split at hc
      · exact absurd (Option.some_inj.1 hc ▸ hz) hyr
      · cases hc
    · exact absurd (Option.some_inj.1 hc ▸ hz) hxr
  · rfl

theorem OldestReady.set {q : WorkQueue} {k j : Nat} {x y z : Slot} (h : OldestReady q j z) (hx : q.slots[k]? = some x)
    (hxr : x.state ≠ .ready) (hyr : y.state ≠ .ready) : OldestReady { q with slots := q.slots.set k y } j z := by
  obtain ⟨hz, hr, hb⟩ := h
  refine ⟨(set_ready_iff hx hxr hyr j z hr).2 hz, hr, fun i w hi hw hwr => ?_⟩
  exact hb i w hi ((set_ready_iff hx hxr hyr i w hwr).1 hw) hwr

theorem noReady_set {q : WorkQueue} {k : Nat} {y : Slot} (h : ∀ z ∈ q.slots, z.state ≠ .ready) (hy : y.state ≠ .ready) :
    ∀ z ∈ (q.slots.set k y), z.state ≠ .ready := by
  intro z hz
  rcases List.mem_or_eq_of_mem_set hz with hz | rfl
  · exact h z hz
  · exact hy

/-! ## The end of a command -/

theorem answer_eq (f : Frame) (a : Answer) (s : State) : answer f a s = { s with link := (s.link.reply f a).begin } := rfl

theorem issueDrive_of_sound {s : State} (h : DriveSound s) : issueDrive s = s := if_pos h

/-- An IDLE Positioner with the drive at STOP has nothing to issue. -/
theorem issueDrive_of_stop {s : State} (hi : s.travel.state = .idle) (hd : s.travel.drive = .stop) : issueDrive s = s :=
  issueDrive_of_sound (hd.trans (driveDue_idle hi).symm)

/-- The drive of a command that ends with its order issued, and then touches neither drive, job nor workhead. -/
theorem driven_of_issue {u w t : State} (htravel : w.travel = u.travel) (hfield : w.field = u.field)
    (ht : t.travel = (issueDrive u).travel) (hf : t.field = (issueDrive u).field) (hd : t.driveDue = u.driveDue) : Driven w t [] := by
  rw [issueDrive_eq] at ht hf
  rw [Driven, hd, ht, hf, htravel, hfield]
  simp

theorem followRetreat_eq {s : State} (h : NoRetreat s) : followRetreat s = s := by
  obtain ⟨hm, hr⟩ := h
  simp [followRetreat, lluRetreatRelease, hr, endRetreat, hm]

theorem testSample_eq {s : State} (h : s.test.running = false) : testSample s = s := by
  simp [testSample, SelfTest.inGroup, h]

/-! ## What Job Control does, each as one change of the state -/

theorem completeJob_eq {s : State} (h : NoneWorking s.queue) :
    completeJob s = { s.idled with
      job := { s.job with state := .idle, phase := none, pausePending := false, endReason := .completed }
      link := s.link.place (.jobState ⟨.idle, none, .completed, s.job.halt, false, none⟩) } := by
  simp only [completeJob, positionerIdle_eq, reportJob, place, State.jobStatus, ← h.activeIndex]
  rfl

theorem pauseAtFinish_eq {s : State} (h : NoneWorking s.queue) :
    pauseAtFinish s = { s.idled with
      job := { s.job with state := .paused, phase := none, pausePending := false }
      link := s.link.place (.jobState ⟨.paused, none, s.job.endReason, s.job.halt, false, none⟩) } := by
  simp only [pauseAtFinish, positionerIdle_eq, reportJob, place, State.jobStatus, ← h.activeIndex]
  rfl

theorem starve_eq (s : State) : starve s = { s.idled with job := { s.job with phase := some .starved } } := by
  rw [starve, positionerIdle_eq]
  rfl

/-- The end of work is tested in WORKING alone. -/
theorem testEndOfWork_eq {s : State} (h : s.job.phase ≠ some .working) : testEndOfWork s = s := by
  have : s.workEnded = false := by simp [State.workEnded, h]
  simp [testEndOfWork, workRounds, endOfWork, this]

/-- An activation off a held track starts positioning, and no work ends. -/
theorem activateSlot_positioned {k : Nat} {x : Slot} {s : State} (hx : s.queue.slots[k]? = some x) (hl : s.llu.state ≠ .holding) :
    activateSlot k s = s.positioned k x := by
  rw [activateSlot, activate_positioned hx hl, testEndOfWork_eq (by simp [State.positioned])]

theorem nextOrStarve_ready {k : Nat} {x : Slot} {s : State} (h : OldestReady s.queue k x) (hl : s.llu.state ≠ .holding) :
    nextOrStarve s = s.positioned k x := by
  rw [nextOrStarve, h.readyPos]
  exact activateSlot_positioned h.1 hl

theorem nextOrStarve_none {s : State} (h : ∀ y ∈ s.queue.slots, y.state ≠ .ready) : nextOrStarve s = starve s := by
  rw [nextOrStarve, WorkQueue.readyPos_none.2 h]

/-- The finish of the active entry (R15). -/
theorem finishActive_eq {s : State} {k : Nat} {x : Slot} (h : OnlyWorking s.queue k x) (final : SlotState)
    (residual : Option (Int × Int)) (missing : Bool) (fault : Option FaultCode) {r : Result}
    (hr : r = resultOf (s.queue.index k) x (s.reachedBy x) final residual missing fault) :
    finishActive final residual missing fault s = { s with
      queue := { s.queue with slots := s.queue.slots.set k { x with state := r.final, result := some r } }
      link := s.link.place (.entryFinished r.slot r.number r.final) } := by
  subst hr
  simp only [finishActive, h.active.1, h.active.2, WorkQueue.modify, modify_eq_set h.1]
  rfl

theorem Llu.achievement_eq (x : Llu) (e : Entry) :
    (x.reached = false → x.achievement.map (achievementPart e) = none) ∧
    (∀ a, x.reached = true → x.achieved = some a → x.achievement.map (achievementPart e) =
      some ⟨⟨a.line, a.left, a.right, if e.hook then a.hook else none⟩, x.liftShort, x.lineForce⟩) := by
  refine ⟨fun h => by simp [Llu.achievement, h], fun a h ha => by simp [Llu.achievement, h, ha, achievementPart]⟩

/-- The result of an entry that was worked to its end, formed from what the units and the LLU hold (R16, R17, R31). -/
theorem resultOf_worked {s : State} {k : Nat} {x : Slot} (h : x.state = .active) (residual : Option (Int × Int)) (missing : Bool) :
    WorkedResult s k x residual missing (resultOf (s.queue.index k) x (s.reachedBy x) s.workedFinal residual missing none) := by
  have hk : s.reachedBy x = ⟨s.unitResults, s.llu.achievement⟩ := by simp [State.reachedBy, h]
  have hf : s.workedFinal = if s.unitResults.any (·.blocked) then .partDone else .done := rfl
  obtain ⟨ha, ha'⟩ := s.llu.achievement_eq x.entry
  rw [hk]
  refine ⟨rfl, rfl, ?_, ?_, rfl, fun hc => by simp [resultOf, hc], fun c hc => ⟨_, by simp [resultOf, hc, correctionPart], rfl⟩,
    ha, ha', rfl, rfl, fun u => ?_, rfl, rfl⟩
  · have hb : s.unitResults.any (·.blocked) = true ↔ ∃ u, (s.unit u).result.blocked = true := by
      simp [Quad.any_iff, State.unitResults, State.unit]
    rw [← hb]
    cases hc : s.unitResults.any (·.blocked) <;> simp [resultOf, hf, hc]
  · simp only [resultOf, hf]
    split <;> simp
  · simp [resultOf, State.unitResults, State.unit]

/-- A worked entry is finished: its slot is neither at work nor READY. -/
theorem WorkedResult.finished {s : State} {k : Nat} {x : Slot} {residual : Option (Int × Int)} {missing : Bool} {r : Result}
    (h : WorkedResult s k x residual missing r) : r.final.finished = true := by
  obtain ⟨-, -, -, hfinal, -⟩ := h
  rcases hfinal with hf | hf <;> rw [hf] <;> rfl

/-! ## An activation and the drive -/

/-- After an activation off a held track, with its drive order issued. -/
theorem issueDrive_positioned (u : State) (j : Nat) (y : Slot) {t : State} (ht : t = issueDrive (u.positioned j y)) :
    Activated u t j y u.travel.p ∧ t.travel.drive = t.driveDue ∧
    t.field = { u.field with
      sent := u.field.sent ++ (if u.travel.drive = t.driveDue then [] else [.drive t.driveDue]) } ∧
    t = { u with
      queue := t.queue, job := { u.job with phase := some .positioning, done := t.job.done }, llu := t.llu, units := t.units
      arb := t.arb, travel := t.travel, field := t.field } := by
  have hd : t.driveDue = (u.positioned j y).driveDue := by rw [ht, issueDrive_driveDue]
  have hdrive : (u.positioned j y).travel.drive = u.travel.drive := by simp [State.positioned]
  rw [hd]
  rw [issueDrive_eq, hdrive] at ht
  subst ht
  exact ⟨positioned_activated u j y, rfl, rfl, rfl⟩

/-- With everything at park the drive permission holds after an activation in a running job (R105). -/
theorem positioned_driveDue {u : State} {j : Nat} {y : Slot} (hs : u.job.state = .running) (hp : ∀ v, (u.unit v).state = .parked)
    (hl : u.llu.state = .isOpen) : (u.positioned j y).driveDue = wantedDrive (u.positioned j y).travel.state := by
  have hu : (activatedUnits y.entry.units u.units).all (·.state.mayTravel) = true := by
    refine (Quad.all_iff _ _).2 fun v => ?_
    have hv : (u.units.get v).state = .parked := hp v
    rw [activatedUnits_get, TUnit.activated]
    simp only [hv]
    split <;> rfl
  have : (u.positioned j y).drivePermitted = true := by
    simp only [State.drivePermitted, State.positioned, hu, hs, hl]
    rfl
  rw [State.driveDue, this, if_pos rfl]

end Sys2Proof.Machine

namespace Sys2Proof.Machine

/-! ## SKIP ENTRY -/

theorem notParked_none {s : State} (h : AtPark s) : s.notParked = none := by
  obtain ⟨hu, hl, hf⟩ := h
  have h1 : s.units.lo.state = .parked := hu .lo
  have h2 : s.units.li.state = .parked := hu .li
  have h3 : s.units.ri.state = .parked := hu .ri
  have h4 : s.units.ro.state = .parked := hu .ro
  simp [State.notParked, h1, h2, h3, h4, hl, hf]

/-- The job runs again, the retreat mode is cleared, and the JOB STATE report shows no active slot (R40). -/
theorem report_leaveHalt_eq {s : State} (h : NoneWorking s.queue) :
    reportJob (leaveHalt s) = { s with
      job := { s.job with state := .running }
      arb := { s.arb with retreatMode := false }
      link := s.link.place (.jobState ⟨.running, s.job.phase, s.job.endReason, s.job.halt, s.job.pausePending, none⟩) } := by
  simp only [reportJob, place, State.jobStatus, ← h.activeIndex]
  rfl

/-- A FAULTED entry given up: its result, its trail record and the position base (R40). -/
theorem skipFaulted_eq {s : State} {k : Nat} {x : Slot} {goal : Int} (h : OnlyWorking s.queue k x)
    (hg : s.travel.target = some goal) {res : Option (Int × Int)} (hres : res = x.copy.bind fun c => residualOf c s.meas.channels)
    {r : Result} (hr : r = resultOf (s.queue.index k) x (s.reachedBy x) .skipped res res.isNone (s.job.halt.map (·.first))) :
    skipFaulted x s = { s with
      queue := { s.queue with slots := s.queue.slots.set k { x with state := .skipped, result := some r } }
      trail := s.trail.append ⟨(x.copy.map (·.c)).getD goal, res.map (·.1), res.map (·.2)⟩
      job := { s.job with base := goal }
      link := s.link.place (.entryFinished r.slot r.number .skipped) } := by
  have hgoal : s.travel.goal = goal := Travel.goal_eq hg
  have hfin : r.final = .skipped := by rw [hr]; rfl
  have hfa := finishActive_eq (s := s.setTrail (s.trail.append (skipRecord s x.copy res))) h .skipped res res.isNone
    (s.job.halt.map fun f : HaltRecord => f.first) (r := r) hr
  rw [hfin] at hfa
  simp only [skipFaulted, ← hres]
  rw [hfa]
  simp only [baseToTarget, skipRecord, ← hgoal]
  rfl

theorem State.faultedSlot_eq {s : State} {k : Nat} {x : Slot} (h : OnlyWorking s.queue k x) (hf : x.state = .faulted) :
    s.faultedSlot = some (k, x) := by
  simp [State.faultedSlot, h.active.1, h.active.2, hf]

/-- SKIP ENTRY that is taken: its reply is ACCEPTED, whatever follows. -/
theorem exec_skip {tag : Word} {s : State} (h : Takeable s ⟨0x000D, tag, []⟩) (ht : s.test.running = false) {u : State}
    (ho : skipOwner (s.setLink s.link.taken) = (u, .accepted)) :
    exec (.skipEntry tag []) s = .next (answer ⟨0x000D, tag, []⟩ .accepted u) := by
  show Host.Outcome.next (takeRequest ⟨0x000D, tag, []⟩ true false skipOwner s) = _
  rw [takeRequest_owner h (by simp [ht]), ho]

theorem skipOwner_faulted {s : State} {k : Nat} {x : Slot} (hs : s.job.state = .halted) (hp : AtPark s)
    (h : OnlyWorking s.queue k x) (hf : x.state = .faulted) :
    skipOwner s = (issueDrive (finishTests true x.entry (reportJob (leaveHalt (skipFaulted x s)))), .accepted) := by
  simp [skipOwner, hs, notParked_none hp, State.faultedSlot_eq h hf]

theorem skipOwner_noneFaulted {s : State} (hs : s.job.state = .halted) (hp : AtPark s) (h : NoneWorking s.queue) :
    skipOwner s = (issueDrive (nextOrStarve (reportJob (leaveHalt s))), .accepted) := by
  simp [skipOwner, hs, notParked_none hp, State.faultedSlot_of_noneWorking h]

/-- An IDLE Positioner whose settle timer does not run is made IDLE by the drive order STOP alone. -/
theorem State.idled_eq {s : State} (hi : s.travel.state = .idle) (ht : s.travel.settle = none) :
    s.idled = { s with
      travel := { s.travel with drive := .stop }, field := { s.field with sent := s.field.sent ++ s.stopOrders } } := by
  simp only [State.idled, ← hi, ← ht]

/-! ### The four ways a skipped job goes on (R32, R40) -/

theorem skip_starves {m : State} (hi : m.travel.state = .idle) (ht : m.travel.settle = none)
    (hr : ∀ y ∈ m.queue.slots, y.state ≠ .ready) :
    issueDrive (nextOrStarve m) = { m with
      job := { m.job with phase := some .starved }
      travel := { m.travel with drive := .stop }, field := { m.field with sent := m.field.sent ++ m.stopOrders } } := by
  rw [nextOrStarve_none hr, starve_eq, State.idled_eq hi ht]
  exact issueDrive_of_stop hi rfl

theorem skip_completes {m : State} {e : Entry} (he : e.isEnd = true) (hn : NoneWorking m.queue) (hi : m.travel.state = .idle)
    (ht : m.travel.settle = none) :
    issueDrive (finishTests true e m) = { m with
      job := { m.job with state := .idle, phase := none, pausePending := false, endReason := .completed }
      travel := { m.travel with drive := .stop }, field := { m.field with sent := m.field.sent ++ m.stopOrders }
      link := m.link.place (.jobState ⟨.idle, none, .completed, m.job.halt, false, none⟩) } := by
  rw [finishTests, if_pos he, completeJob_eq hn, State.idled_eq hi ht]
  exact issueDrive_of_stop hi rfl

theorem finishTests_skipped {m : State} {e : Entry} (he : e.isEnd = false) : finishTests true e m = pauseOrNext m := by
  simp [finishTests, he]

theorem skip_pauses {m : State} {e : Entry} (he : e.isEnd = false) (hp : m.job.pausePending = true) (hn : NoneWorking m.queue)
    (hi : m.travel.state = .idle) (ht : m.travel.settle = none) :
    issueDrive (finishTests true e m) = { m with
      job := { m.job with state := .paused, phase := none, pausePending := false }
      travel := { m.travel with drive := .stop }, field := { m.field with sent := m.field.sent ++ m.stopOrders }
      link := m.link.place (.jobState ⟨.paused, none, m.job.endReason, m.job.halt, false, none⟩) } := by
  rw [finishTests_skipped he, pauseOrNext, if_pos hp, pauseAtFinish_eq hn, State.idled_eq hi ht]
  exact issueDrive_of_stop hi rfl

theorem finishTests_next {m : State} {e : Entry} (he : e.isEnd = false) (hp : m.job.pausePending = false) :
    finishTests true e m = nextOrStarve m := by
  simp [finishTests_skipped he, pauseOrNext, hp]

theorem skip_activates {m u : State} {j : Nat} {y : Slot} (h : u = issueDrive (nextOrStarve m)) (hs : m.job.state = .running)
    (hp : AtPark m) (hj : OldestReady m.queue j y) :
    Activated m u j y m.travel.p ∧ u.trail = m.trail ∧
      u.job = { m.job with phase := some .positioning, done := u.job.done } ∧ u.params = m.params ∧ u.engine = m.engine ∧
      u.table = m.table ∧ u.meas = m.meas ∧ u.test = m.test ∧ u.pending = m.pending ∧
      u.travel.drive = wantedDrive u.travel.state ∧
      u.field = { m.field with
        sent := m.field.sent ++ (if m.travel.drive = u.travel.drive then [] else [.drive u.travel.drive]) } ∧
      u.link = m.link := by
  obtain ⟨hu, hl, -⟩ := hp
  rw [nextOrStarve_ready hj (by simp [hl])] at h
  obtain ⟨ha, hd, hf, heq⟩ := issueDrive_positioned m j y h
  have hdue : u.driveDue = wantedDrive u.travel.state := by
    rw [h, issueDrive_driveDue, positioned_driveDue hs hu hl, issueDrive_eq]
  rw [← hd] at hf
  rw [heq] at ha hd hf hdue ⊢
  exact ⟨ha, rfl, rfl, rfl, rfl, rfl, rfl, rfl, rfl, hd.trans hdue, hf, rfl⟩

end Sys2Proof.Machine

section
open Sys2Proof Sys2Proof.Machine

/-- Settles O26: the FAULTED entry is finished in one change of the state, and then the finish tests are made. -/
theorem skipGivesTheEntryUp : Obligations.SkipGivesTheEntryUp := by
  unfold Obligations.SkipGivesTheEntryUp
  intro tag s h ht hs hp
  have hp' : AtPark (s.setLink s.link.taken) := hp
  refine ⟨fun hn => ?_, fun k x goal hk hf hg => ?_⟩
  · obtain ⟨u, hu⟩ : ∃ u, u = issueDrive (nextOrStarve (reportJob (leaveHalt (s.setLink s.link.taken)))) := ⟨_, rfl⟩
    have he := exec_skip h ht (hu ▸ skipOwner_noneFaulted (s := s.setLink s.link.taken) hs hp' hn)
    rw [report_leaveHalt_eq (s := s.setLink s.link.taken) hn] at hu
    refine ⟨fun hi hset hr => ?_, fun j y hj => ?_⟩
    · have heq := hu.trans (skip_starves hi hset hr)
      exact ⟨_, he, heq ▸ rfl, answer_answered (congrArg State.link heq :)⟩
    · obtain ⟨ha, htrail, hjob, hparams, hengine, htable, hmeas, htest, hpending, hd, hfield, hlink⟩ :=
        skip_activates hu rfl hp' hj
      exact ⟨_, he, ha, htrail, hjob, hparams, hengine, htable, hmeas, htest, hpending, hd, hfield,
        answer_answered hlink⟩
  · obtain ⟨res, hres⟩ : ∃ res, res = x.copy.bind fun c => residualOf c s.meas.channels := ⟨_, rfl⟩
    obtain ⟨r, hr⟩ : ∃ r, r = resultOf (s.queue.index k) x (s.reachedBy x) .skipped res res.isNone
      (s.job.halt.map fun f : HaltRecord => f.first) := ⟨_, rfl⟩
    have hfin : r.final = .skipped := hr ▸ rfl
    obtain ⟨u, hu⟩ : ∃ u, u = issueDrive (finishTests true x.entry (reportJob (leaveHalt (skipFaulted x (s.setLink s.link.taken))))) :=
      ⟨_, rfl⟩
    have he := exec_skip h ht (hu ▸ skipOwner_faulted (s := s.setLink s.link.taken) hs hp' hk hf)
    have hn : NoneWorking { s.queue with slots := s.queue.slots.set k { x with state := .skipped, result := some r } } :=
      hk.set_noneWorking (by simp)
    rw [skipFaulted_eq (s := s.setLink s.link.taken) hk hg hres hr, report_leaveHalt_eq hn] at hu
    refine ⟨r, _, _, res, hres, hr ▸ rfl, hr ▸ rfl, hfin, hr ▸ rfl, hr ▸ rfl, hr ▸ rfl, hr ▸ rfl, ?_, ?_, rfl, rfl, ?_, ?_, ?_, ?_⟩
    · subst hr
      exact ⟨rfl, rfl⟩
    · intro kept hkept
      have : s.reachedBy x = kept := by simp [State.reachedBy, hf, hkept]
      rw [hr, this]
      exact ⟨rfl, rfl⟩
    · intro hend hi hset
      have heq := hu.trans (skip_completes hend hn hi hset)
      exact ⟨_, he, heq ▸ rfl, answer_answered (congrArg State.link heq :)⟩
    · intro hend hpp hi hset
      have heq := hu.trans (skip_pauses hend hpp hn hi hset)
      exact ⟨_, he, heq ▸ rfl, answer_answered (by rw [← hpp]; exact (congrArg State.link heq :))⟩
    · intro hend hpp hi hset hno
      have heq := (hu.trans (congrArg issueDrive (finishTests_next hend hpp))).trans (skip_starves hi hset (noReady_set hno (by simp)))
      exact ⟨_, he, heq ▸ rfl, answer_answered (by rw [← hpp]; exact (congrArg State.link heq :))⟩
    · intro j y hend hpp hj
      have hu' := hu.trans (congrArg issueDrive (finishTests_next hend hpp))
      obtain ⟨ha, htrail, hjob, hparams, hengine, htable, hmeas, htest, hpending, hd, hfield, hlink⟩ :=
        skip_activates hu' rfl hp' (hj.set hk.1 (by simp [hf]) (by simp))
      exact ⟨_, he, ha, htrail, hjob, hparams, hengine, htable, hmeas, htest, hpending, hd, hfield,
        answer_answered (by rw [← hpp]; exact hlink)⟩
end

namespace Sys2Proof.Machine

/-! ## The residual of a release (R34, R157) -/

/-- A command whose drive order is STOP already ends with the next frame alone. -/
theorem conclude_of_stop {s : State} (hi : s.travel.state = .idle) (hd : s.travel.drive = .stop) :
    conclude s = { s with link := s.link.begin } := by
  rw [conclude, issueDrive_of_stop hi hd]
  rfl

theorem conclude_eq (s : State) : conclude s = { s with
    travel := (conclude s).travel, field := (conclude s).field, link := (conclude s).link } := by
  rw [conclude, issueDrive_eq]
  rfl

/-- Outside a retreat and a self-test a sample leads to nothing more than what the LLU makes of it. -/
theorem conclude_sample {s : State} (hr : NoRetreat s) (ht : s.test.running = false) :
    conclude (followRetreat (testSample s)) = conclude s := by
  rw [testSample_eq ht, followRetreat_eq hr]

/-- A sample that leaves the Positioner IDLE with the drive at STOP ends with the next frame alone. -/
theorem conclude_sample_stop {s : State} (hr : NoRetreat s) (ht : s.test.running = false) (hi : s.travel.state = .idle)
    (hd : s.travel.drive = .stop) : conclude (followRetreat (testSample s)) = { s with link := s.link.begin } :=
  (conclude_sample hr ht).trans (conclude_of_stop hi hd)

/-- The drive of a command that ends with the Positioner made IDLE in `mid`. -/
theorem driven_of_idled {mid t : State} (htravel : t.travel = mid.idled.travel) (hfield : t.field = mid.idled.field) :
    Driven { mid with travel := { mid.travel with state := .idle, settle := none } } t [] := by
  have hd : t.driveDue = .stop := driveDue_idle (congrArg Travel.state htravel)
  rw [Driven, hd]
  exact ⟨htravel, by simpa [State.idled, State.stopOrders] using hfield⟩

theorem Arbiter.askShift_retreatMode (a : Arbiter) (g : Quad UnitSettings) : (a.askShift g).retreatMode = a.retreatMode := by
  unfold Arbiter.askShift
  generalize UnitId.all.filter _ = l
  induction l generalizing a with
  | nil => rfl
  | cons u l ih => rw [List.foldl_cons, ih, (Arbiter.request_keeps (.unit u) a).1]

theorem NoRetreat.positioned {s : State} (h : NoRetreat s) (k : Nat) (x : Slot) : NoRetreat (s.positioned k x) :=
  ⟨(Arbiter.askShift_retreatMode _ _).trans h.1, h.2⟩

/-- Tests 3 to 5 of R32, made at the end of a sample. -/
theorem pauseOrNext_goesOn {mid t : State} (ht : t = conclude (followRetreat (testSample (pauseOrNext mid))))
    (hn : NoneWorking mid.queue) (hr : NoRetreat mid) (hl : mid.llu.state ≠ .holding) (htest : mid.test.running = false) :
    GoesOn mid t := by
  refine ⟨fun hp => ?_, fun hp hno => ?_, fun j y hp hj => ?_⟩
  · rw [pauseOrNext, if_pos hp, pauseAtFinish_eq hn] at ht
    replace ht := ht.trans (conclude_sample_stop hr htest rfl rfl)
    subst ht
    exact ⟨rfl, driven_of_idled rfl rfl, rfl⟩
  · rw [pauseOrNext, hp, if_neg (by simp), nextOrStarve_none hno, starve_eq] at ht
    replace ht := ht.trans (conclude_sample_stop hr htest rfl rfl)
    subst ht
    exact ⟨rfl, driven_of_idled rfl rfl, rfl⟩
  · rw [pauseOrNext, hp, if_neg (by simp), nextOrStarve_ready hj hl] at ht
    replace ht := ht.trans (conclude_sample (hr.positioned j y) htest)
    obtain ⟨ha, hd, hf, heq⟩ := issueDrive_positioned mid j y rfl
    subst ht
    exact ⟨ha, by rw [conclude, heq]; rfl, hd, hf, by rw [conclude, heq]; rfl⟩

/-- An END entry completes the job at the end of a sample (R32, test 1). -/
theorem completeJob_ends {mid t : State} (ht : t = conclude (followRetreat (testSample (completeJob mid))))
    (hn : NoneWorking mid.queue) (hr : NoRetreat mid) (htest : mid.test.running = false) :
    t = { mid with
      job := { mid.job with state := .idle, phase := none, pausePending := false, endReason := .completed }
      travel := t.travel, field := t.field, link := t.link } ∧
    Driven { mid with travel := { mid.travel with state := .idle, settle := none } } t [] ∧
    t.link = (mid.link.place (.jobState ⟨.idle, none, .completed, mid.job.halt, false, none⟩)).begin := by
  rw [completeJob_eq hn] at ht
  replace ht := ht.trans (conclude_sample_stop hr htest rfl rfl)
  subst ht
  exact ⟨rfl, driven_of_idled rfl rfl, rfl⟩

/-- The held entry's slot is the finished slot with no finished slot behind it. -/
theorem WorkQueue.heldPos_eq {q : WorkQueue} {k : Nat} {x : Slot} (hx : q.slots[k]? = some x) (hf : x.state.finished = true)
    (hb : ∀ j y, k < j → q.slots[j]? = some y → y.state.finished = false) : q.heldPos = some k := by
  obtain ⟨hk, rfl⟩ := List.getElem?_eq_some_iff.1 hx
  have hj : q.slots.reverse.findIdx? (·.state.finished) = some (q.slots.length - 1 - k) := by
    refine List.findIdx?_eq_some_iff_getElem.2 ⟨by rw [List.length_reverse]; omega, ?_, fun j hj => ?_⟩
    · simpa [List.getElem_reverse, show q.slots.length - 1 - (q.slots.length - 1 - k) = k by omega] using hf
    · rw [List.getElem_reverse, hb _ _ (by omega) (List.getElem?_eq_getElem _)]
      simp
  rw [WorkQueue.heldPos, hj, Option.map_some]
  congr 1
  omega

/-- The measurement of a release has ended with the residual `res`, the job not told yet (R157, steps 1 to 3). -/
def State.measured (s : State) (c : Correction) (res : Option (Int × Int)) : State :=
  { s with
    engine := .noRecord, trail := s.trail.append ⟨c.c, res.map (·.1), res.map (·.2)⟩
    llu := { s.llu with state := .isOpen, count := if res = none then s.llu.count + 1 else s.llu.count } }

theorem settleSample_counts {s : State} {c : Correction} (he : s.engine = .closing c) (hr : residualOf c s.meas.channels = none)
    (hc : s.llu.count + 1 < 5) : settleSample s = changeLlu (fun x => { x with count := x.count + 1 }) s := by
  simp only [settleSample, he, hr]
  exact if_pos hc

theorem settleSample_ends {s : State} {c : Correction} {res : Option (Int × Int)} (he : s.engine = .closing c)
    (hr : res = residualOf c s.meas.channels) (hc : res ≠ none ∨ 5 ≤ s.llu.count + 1) :
    settleSample s = lluReportsOpen res (s.measured c res) := by
  simp only [settleSample, he, ← hr]
  cases res with
  | some v => rfl
  | none =>
    have : ¬ s.llu.count + 1 < unusableLimit := by
      have := hc.resolve_left (by simp)
      simp only [unusableLimit]
      omega
    exact if_neg this

/-- The active entry finishes with the residual, and the position base becomes T (R15, R96). -/
def State.releaseFinished (s : State) (k : Nat) (x : Slot) (r : Result) (goal : Int) : State :=
  { s with
    queue := { s.queue with slots := s.queue.slots.set k { x with state := r.final, result := some r } }
    job := { s.job with base := goal }
    link := s.link.place (.entryFinished r.slot r.number r.final) }

/-- What the job makes of a released LLU before it goes on: the active entry finishes, or the held one has its residual (R34). -/
def State.residualReported (s : State) (res : Option (Int × Int)) : State :=
  match s.queue.activeSlot with
  | some _ => baseToTarget (finishActive s.workedFinal res res.isNone none s)
  | none => writeHeldResidual res s

theorem residualReported_keeps (s : State) (res : Option (Int × Int)) :
    (s.residualReported res).meas = s.meas ∧ (s.residualReported res).engine = s.engine ∧
    (s.residualReported res).trail = s.trail ∧ (s.residualReported res).llu = s.llu := by
  unfold State.residualReported
  split
  · simp [baseToTarget]
  · unfold writeHeldResidual
    split <;> simp

theorem residualReported_finishes {s : State} {k : Nat} {x : Slot} {r : Result} {goal : Int} {res : Option (Int × Int)}
    (hk : OnlyWorking s.queue k x) (hg : s.travel.target = some goal)
    (hr : r = resultOf (s.queue.index k) x (s.reachedBy x) s.workedFinal res res.isNone none) :
    s.residualReported res = s.releaseFinished k x r goal := by
  have hgoal : s.travel.goal = goal := Travel.goal_eq hg
  simp only [State.residualReported, hk.active.2, finishActive_eq hk s.workedFinal res res.isNone none hr, baseToTarget, ← hgoal]
  rfl

theorem residualReported_held {s : State} {k : Nat} {x : Slot} {r : Result} {res : Option (Int × Int)}
    (hn : NoneWorking s.queue) (hx : s.queue.slots[k]? = some x) (hf : x.state.finished = true) (hr : x.result = some r)
    (hb : ∀ j y, k < j → s.queue.slots[j]? = some y → y.state.finished = false) :
    s.residualReported res = { s with
      queue := { s.queue with
        slots := s.queue.slots.set k { x with result := some { r with residual := res, residualMissing := res.isNone } } } } := by
  simp only [State.residualReported, hn.activeSlot, writeHeldResidual, WorkQueue.heldPos_eq hx hf hb, WorkQueue.modify,
    modify_eq_set hx, hr, Option.map_some]
  rfl

theorem lluReportsOpen_active {s : State} {k : Nat} {x : Slot} {res : Option (Int × Int)}
    (hs : s.job.state = .running) (hp : s.job.phase = some .releasing) (hk : OnlyWorking s.queue k x) :
    lluReportsOpen res s = finishTests false x.entry (s.residualReported res) := by
  rw [lluReportsOpen, if_pos ⟨hs, hp⟩, State.residualReported, hk.active.2]

theorem lluReportsOpen_noneActive {s : State} {res : Option (Int × Int)}
    (hs : s.job.state = .running) (hp : s.job.phase = some .releasing) (hn : NoneWorking s.queue) :
    lluReportsOpen res s = pauseOrNext (s.residualReported res) := by
  rw [lluReportsOpen, if_pos ⟨hs, hp⟩, State.residualReported, hn.activeSlot]

theorem finishTests_separate {m : State} {e : Entry} (he : e.isEnd = false) (hj : e.joinedNext = false) :
    finishTests false e m = pauseOrNext m := by
  simp [finishTests, he, hj]

/-- Another result in the slot of a finished entry leaves no slot at work. -/
theorem NoneWorking.set {q : WorkQueue} (h : NoneWorking q) {k : Nat} {y : Slot} (hy : y.state ≠ .active ∧ y.state ≠ .faulted) :
    NoneWorking { q with slots := q.slots.set k y } := by
  intro z hz
  rcases List.mem_or_eq_of_mem_set hz with hz | rfl
  · exact h z hz
  · exact hy

end Sys2Proof.Machine

section
open Sys2Proof Sys2Proof.Machine

/-- Settles O55: the residual's report is one change of the state, and then the finish tests are made. -/
theorem residualEndsTheEntry : Obligations.ResidualEndsTheEntry := by
  unfold Obligations.ResidualEndsTheEntry
  intro sample s c m res hl hset he hnr ht hm hres
  obtain ⟨t, htq⟩ : ∃ t, t = conclude (followRetreat (testSample (settleSample (s.setMeas ⟨m, some 20⟩)))) := ⟨_, rfl⟩
  have hstep : exec (.sampleArrival sample) s = .next t := by
    show Host.Outcome.next (takeSampleStep sample s) = _
    simp [takeSampleStep, lluSample, updateChannels, hl, hset, hm ▸ htq, sampleTime]
  refine ⟨fun hnone hc => ⟨t, hstep, ?_⟩, fun hs hp hc => ?_⟩
  · rw [settleSample_counts (s := s.setMeas ⟨m, some 20⟩) he (hres.symm.trans hnone) hc] at htq
    replace htq := htq.trans (conclude_sample hnr ht)
    subst htq
    exact ⟨conclude_eq _, conclude_issued _⟩
  · rw [settleSample_ends (s := s.setMeas ⟨m, some 20⟩) he hres hc] at htq
    obtain ⟨w, hw⟩ : ∃ w, w = (s.setMeas ⟨m, some 20⟩).measured c res := ⟨_, rfl⟩
    rw [← hw] at htq
    have hnw : NoRetreat w := hw ▸ hnr
    have hopen : w.llu.state ≠ .holding := by simp [hw, State.measured]
    obtain ⟨hmeas, hengine, htrail, hllu⟩ := residualReported_keeps w res
    refine ⟨t, w.residualReported res, hstep, hmeas.trans (hw ▸ rfl), hengine.trans (hw ▸ rfl), htrail.trans (hw ▸ rfl),
      hllu.trans (hw ▸ rfl), fun k x goal hk hx hj hg => ?_, fun k x r hn hk hx hxr hb => ?_⟩
    · have hkw : OnlyWorking w.queue k x := hw ▸ hk
      rw [lluReportsOpen_active (hw ▸ hs) (hw ▸ hp) hkw] at htq
      have hr := resultOf_worked (s := w) (k := k) hx res res.isNone
      have hmid := residualReported_finishes (res := res) (goal := goal) hkw (hw ▸ hg) rfl
      generalize resultOf (w.queue.index k) x (w.reachedBy x) w.workedFinal res res.isNone none = r at hr hmid
      have hn : NoneWorking (w.releaseFinished k x r goal).queue := hkw.set_noneWorking (SlotState.finished_idle hr.finished)
      rw [hmid] at htq ⊢
      refine ⟨⟨r, ?_, ?_⟩, fun he => ?_, fun he => ?_⟩
      · subst hw
        exact hr
      · subst hw
        rfl
      · rw [finishTests, if_pos he] at htq
        have h := completeJob_ends htq hn hnw (hw ▸ ht)
        subst hw
        exact h
      · rw [finishTests_separate he hj] at htq
        exact pauseOrNext_goesOn htq hn hnw hopen (hw ▸ ht)
    · have hnone : NoneWorking w.queue := hw ▸ hn
      have hmid := residualReported_held (s := w) (k := k) (res := res) hnone (hw ▸ hk) hx hxr (hw ▸ hb)
      rw [lluReportsOpen_noneActive (hw ▸ hs) (hw ▸ hp) hnone, hmid] at htq
      rw [hmid]
      refine ⟨?_, pauseOrNext_goesOn htq (hnone.set ?_) hnw hopen (hw ▸ ht)⟩
      · subst hw
        rfl
      · exact hnone x (List.mem_of_getElem? (hw ▸ hk : w.queue.slots[k]? = some x))
end

namespace Sys2Proof.Machine

/-! ## What follows an accepted LOAD ENTRY (R13, R29, R31, R33) -/

/-- The ring with the loaded slot at its tail. -/
def State.withLoaded (s : State) (x : Slot) : State := { s with queue := { s.queue with slots := s.queue.slots ++ [x] } }

theorem withLoaded_oldestReady {s : State} {x : Slot} (hx : x.state = .ready) (hno : ∀ y ∈ s.queue.slots, y.state ≠ .ready) :
    OldestReady (s.withLoaded x).queue s.queue.slots.length x := by
  refine ⟨List.getElem?_concat_length, hx, fun j y hj hy => hno y ?_⟩
  rw [State.withLoaded, List.getElem?_append_left hj] at hy
  exact List.mem_of_getElem? hy

theorem withLoaded_noneWorking {s : State} {x : Slot} (hx : x.state = .ready) (hn : NoneWorking s.queue) :
    NoneWorking (s.withLoaded x).queue := by
  intro y hy
  rcases List.mem_append.1 hy with hy | hy
  · exact hn y hy
  · rw [List.mem_singleton.1 hy, hx]
    simp

/-- An accepted load: the clamped entry stands READY at the tail, and Job Control hears of it. -/
theorem exec_load_accepted {tag : Word} {body : List Byte} {s : State} (h : Takeable s ⟨0x0005, tag, body⟩)
    (hf : loadFits body = true) (ht : s.test.running = false) (hr : s.queue.loadRefusal (decodeEntry body) = none) :
    exec (.loadEntry tag body) s = .next (answer ⟨0x0005, tag, body⟩
      (.loaded ((s.queue.oldest + s.queue.slots.length) % 64) s.queue.newChainPos
        (((decodeEntry body).setpoints.filter (·.outside)).map (·.code)))
      (issueDrive (entryLoaded ((s.setLink s.link.taken).withLoaded (readySlot (clampEntry (decodeEntry body)) s.queue.newChainPos))))) := by
  show Host.Outcome.next (takeRequest ⟨0x0005, tag, body⟩ (loadFits body) false (loadOwner body) s) = _
  rw [hf, takeRequest_owner h (by simp [ht])]
  simp only [loadOwner, State.setLink_reads, hr, WorkQueue.load, WorkQueue.nextChainPos_eq, clampedCodes_eq]
  rfl

/-- Job Control activates the loaded entry, which is the oldest READY one. -/
theorem entryLoaded_activates {s : State} {k : Nat} {x : Slot} (hs : s.job.state = .running)
    (hp : s.job.phase = some .starved ∨ (s.job.phase = some .holding ∧ NoneWorking s.queue)) (hj : OldestReady s.queue k x) :
    entryLoaded s = activateSlot k s := by
  have hp' : s.job.phase = some .starved ∨ (s.job.phase = some .holding ∧ s.queue.activePos.isNone = true) :=
    hp.imp id fun h => ⟨h.1, by rw [WorkQueue.activePos_none.2 h.2]; rfl⟩
  rw [entryLoaded, if_pos ⟨hs, hp'⟩, hj.readyPos]

/-- No unit is used when every mask is 0. -/
theorem noneUsed_iff (g : Quad UnitSettings) : g.all (·.mask == 0) = true ↔ ∀ u, (g.get u).mask = 0 := by
  simp [Quad.all_iff]

/-- A continuation with a used unit waits for its side-shift on the held track. -/
theorem activateSlot_chained {k : Nat} {x : Slot} {s : State} (hx : s.queue.slots[k]? = some x) (hl : s.llu.state = .holding)
    (hu : ∃ u, (x.entry.units.get u).mask ≠ 0) : activateSlot k s = s.chained k x := by
  have : x.entry.units.all (·.mask == 0) = false := by
    rw [Bool.eq_false_iff, ne_eq, noneUsed_iff]
    push Not
    exact hu
  rw [activateSlot, activate_chained hx hl, testEndOfWork_eq (by simp [State.chained, this])]

/-! ### The end of an entry's work (R31) -/

theorem beginRelease_eq {s : State} (h : s.gateOpen = true) : beginRelease s = s.workReleased := by
  have hl : lluRelease (s.setEngine s.engine.close) = startRelease (s.setEngine s.engine.close) := if_pos h
  rw [beginRelease, hl]
  cases he : s.engine <;> simp [State.workReleased, he, startRelease, setPhase, changeLlu, arbiter, Engine.close, State.setEngine,
    State.setLlu, State.setArb, State.setJob]

theorem finishHeld_eq {s : State} {k : Nat} {x : Slot} {r : Result} {goal : Int} (hk : OnlyWorking s.queue k x)
    (h : s.gateOpen = true) (hg : s.travel.target = some goal)
    (hr : r = resultOf (s.queue.index k) x (s.reachedBy x) s.workedFinal none false none) : finishHeld s = s.workHeld k x r goal := by
  have hl : lluHold s = changeLlu (fun y => { y with state := .holding }) s := if_pos h
  have hgoal : s.travel.goal = goal := Travel.goal_eq hg
  have hfa := finishActive_eq (s := changeLlu (fun y => { y with state := .holding }) s) hk s.workedFinal none false none hr
  rw [finishHeld, hl, hfa]
  cases he : s.engine <;> simp [State.workHeld, he, hgoal, setPhase, changeLlu, baseToTarget, Engine.hold, State.setEngine,
    State.setLlu, State.setJob]

theorem gateOpen_of_workEnded {s : State} (h : s.workEnded = true) : s.gateOpen = true := by
  rw [State.workEnded, Bool.and_eq_true] at h
  exact h.2

theorem testEndOfWork_releases {s : State} {k : Nat} {x : Slot} (hw : s.workEnded = true) (hk : OnlyWorking s.queue k x)
    (hj : x.entry.joinedNext = false) : testEndOfWork s = s.workReleased := by
  rw [testEndOfWork, workRounds, endOfWork, if_pos hw, hk.active.2]
  simp only [hj, Bool.false_eq_true, if_false, beginRelease_eq (gateOpen_of_workEnded hw)]

theorem testEndOfWork_holds {s : State} {k : Nat} {x : Slot} {r : Result} {goal : Int} (hw : s.workEnded = true)
    (hk : OnlyWorking s.queue k x) (hj : x.entry.joinedNext = true) (he : x.entry.isEnd = false)
    (hg : s.travel.target = some goal) (hno : ∀ y ∈ s.queue.slots, y.state ≠ .ready)
    (hr : r = resultOf (s.queue.index k) x (s.reachedBy x) s.workedFinal none false none) (hrf : r.final ≠ .ready) :
    testEndOfWork s = s.workHeld k x r goal := by
  have hnone : (s.workHeld k x r goal).queue.readyPos = none := WorkQueue.readyPos_none.2 (noReady_set hno hrf)
  rw [testEndOfWork, workRounds, endOfWork, if_pos hw, hk.active.2]
  simp only [hj, he, if_true, Bool.false_eq_true, if_false, finishHeld_eq hk (gateOpen_of_workEnded hw) hg hr, hnone]

/-- The command ends with the drive order issued and the reply placed: nothing but the line differs otherwise. -/
theorem settled_answer {f : Frame} {a : Answer} {u w : State} (hw : w = { u with link := w.link }) :
    Settled w (answer f a (issueDrive u)) := by
  have hdue : (answer f a (issueDrive u)).driveDue = u.driveDue := issueDrive_driveDue u
  refine ⟨?_, driven_of_issue (u := u) (hw ▸ rfl) (hw ▸ rfl) rfl rfl hdue⟩
  rw [answer_eq, issueDrive_eq, hw]

/-- A loaded entry that Job Control does not activate waits. -/
theorem entryLoaded_stays {s : State} {e : Entry} {p : Nat} (h : ¬ LoadActivates s) :
    entryLoaded (s.withLoaded (readySlot e p)) = s.withLoaded (readySlot e p) :=
  entryLoaded_waits (q := (s.withLoaded (readySlot e p)).queue) h rfl

/-- Only an activation on the held track that ends its work at once places a report with the load. -/
theorem entryLoaded_link {s : State} {e : Entry} {p : Nat} (h : ¬ LoadActivates s ∨
      ((∀ y ∈ s.queue.slots, y.state ≠ .ready) ∧ (s.llu.state ≠ .holding ∨ ∃ u, (e.units.get u).mask ≠ 0))) :
    (entryLoaded (s.withLoaded (readySlot e p))).link = s.link := by
  by_cases ha : LoadActivates s
  · obtain ⟨hno, hor⟩ := h.resolve_left (not_not.2 ha)
    obtain ⟨hs, hp⟩ := ha
    have hj : OldestReady (s.withLoaded (readySlot e p)).queue s.queue.slots.length (readySlot e p) :=
      withLoaded_oldestReady rfl hno
    rw [entryLoaded_activates (s := s.withLoaded (readySlot e p)) hs
      (hp.imp id fun hp => ⟨hp.1, withLoaded_noneWorking rfl hp.2⟩) hj]
    by_cases hl : s.llu.state = .holding
    · rw [activateSlot_chained hj.1 hl (hor.resolve_left (not_not.2 hl))]
      rfl
    · rw [activateSlot_positioned hj.1 hl]
      rfl
  · rw [entryLoaded_stays ha]
    rfl

/-- The slot activated on the held track is the one at work. -/
theorem continued_onlyWorking {s : State} {k : Nat} {x : Slot} {c : Correction} (hn : NoneWorking s.queue)
    (hx : s.queue.slots[k]? = some x) : OnlyWorking (s.continued k x c).queue k (x.tookOver c) := by
  refine ⟨?_, .inl rfl, fun j y hj hy => ?_⟩
  · exact List.getElem?_set_self (List.getElem?_eq_some_iff.1 hx).1
  · rw [State.continued, List.getElem?_set_ne (Ne.symm hj)] at hy
    exact hn y (List.mem_of_getElem? hy)

/-- A continuation without used units has nothing left to do: its work has ended (R29, R31). -/
theorem continued_workEnded {s : State} {k : Nat} {x : Slot} {c : Correction} (hs : s.job.state = .running)
    (hl : s.llu.state = .holding) (hu : ∀ u, (x.entry.units.get u).mask = 0) : (s.continued k x c).workEnded = true := by
  have hall : x.entry.units.all (·.mask == 0) = true := (noneUsed_iff _).2 hu
  have hdone : (x.entry.units.map (·.mask == 0)).all (fun d => d) = true := hall
  simp [State.workEnded, State.continued, State.gateOpen, Llu.atDemandOrHolding, hs, hl, hall, hdone]

theorem activateSlot_continued {s : State} {k : Nat} {x : Slot} {c : Correction} (hx : s.queue.slots[k]? = some x)
    (hl : s.llu.state = .holding) (he : s.engine = .held c) : activateSlot k s = testEndOfWork (s.continued k x c) := by
  rw [activateSlot, activate_chained hx hl, chained_eq_continued he]

/-- After a continuation of the only READY slot no READY one is left. -/
theorem continued_noReady {s : State} {x : Slot} {c : Correction} (hno : ∀ y ∈ s.queue.slots, y.state ≠ .ready) :
    ∀ y ∈ ((s.withLoaded x).continued s.queue.slots.length x c).queue.slots, y.state ≠ .ready := by
  intro y hy
  have hy' : y ∈ (s.queue.slots ++ [x]).set s.queue.slots.length (x.tookOver c) := hy
  rw [List.set_append_right _ _ le_rfl, Nat.sub_self, List.set_cons_zero, List.mem_append, List.mem_singleton] at hy'
  rcases hy' with hy' | rfl
  · exact hno y hy'
  · simp [Slot.tookOver]

end Sys2Proof.Machine

section
open Sys2Proof Sys2Proof.Machine

/-- Settles O13: the load is one change of the ring, and what Job Control does with it is one of five changes of the state. -/
theorem loadStoresTheEntry : Obligations.LoadStoresTheEntry := by
  unfold Obligations.LoadStoresTheEntry
  intro tag body s h hf ht hlen hnum hchain hdist
  have hexec := exec_load_accepted h hf ht (WorkQueue.loadRefusal_none.2 ⟨hlen, hnum, hchain, hdist⟩)
  obtain ⟨x, hx⟩ : ∃ x, x = readySlot (clampEntry (decodeEntry body)) s.queue.newChainPos := ⟨_, rfl⟩
  obtain ⟨s', hs'⟩ : ∃ s', s' = s.setLink s.link.taken := ⟨_, rfl⟩
  have hxr : x.state = .ready := hx ▸ rfl
  rw [← hx, ← hs'] at hexec
  refine ⟨_, x, hexec, hx ▸ clampEntry_stored _, hx ▸ rfl, fun hcase => ?_, fun hna hd => ?_, fun hs hp hno hl => ?_,
    fun c w hs hp hn hno hl he hw => ?_⟩
  · subst hx hs'
    exact answer_answered ((issueDrive_keeps _).1.trans (entryLoaded_link hcase))
  · subst hx hs'
    rw [entryLoaded_stays (s := s.setLink s.link.taken) hna, issueDrive_of_sound (s := (s.setLink s.link.taken).withLoaded _) hd]
    rfl
  · have hj : OldestReady (s'.withLoaded x).queue s.queue.slots.length x := hs' ▸ withLoaded_oldestReady hxr hno
    obtain ⟨v, hv⟩ : ∃ v, v = issueDrive (entryLoaded (s'.withLoaded x)) := ⟨_, rfl⟩
    rw [← hv]
    rw [entryLoaded_activates (hs' ▸ hs) (.inl (hs' ▸ hp)) hj, activateSlot_positioned hj.1 (hs' ▸ hl)] at hv
    obtain ⟨ha, hd, hfield, heq⟩ := issueDrive_positioned _ _ _ hv
    subst hs'
    refine ⟨ha, ?_, hd, hfield⟩
    rw [answer_eq, heq]
    rfl
  · have hj : OldestReady (s'.withLoaded x).queue s.queue.slots.length x := hs' ▸ withLoaded_oldestReady hxr hno
    have hn' : NoneWorking (s'.withLoaded x).queue := hs' ▸ withLoaded_noneWorking hxr hn
    have hl' : (s'.withLoaded x).llu.state = .holding := hs' ▸ hl
    have hu := entryLoaded_activates (s := s'.withLoaded x) (hs' ▸ hs) (.inr ⟨hs' ▸ hp, hn'⟩) hj
    have he' : (s'.withLoaded x).engine = .held c := hs' ▸ he
    have hcont := activateSlot_continued hj.1 hl' he'
    rw [hcont] at hu
    rw [hu]
    obtain ⟨w', hw'⟩ : ∃ w', w' = (s'.withLoaded x).continued s.queue.slots.length x c := ⟨_, rfl⟩
    have hww : w = { w' with link := w.link } := by
      subst hw hw' hs'
      rfl
    rw [← hw'] at hcont ⊢
    refine ⟨fun hused => ?_, fun hnone => ?_⟩
    · have hstay : testEndOfWork w' = w' :=
        hcont.symm.trans ((activateSlot_chained hj.1 hl' hused).trans ((chained_eq_continued he').trans hw'.symm))
      rw [hstay]
      exact settled_answer hww
    · have hk : OnlyWorking w'.queue s.queue.slots.length (x.tookOver c) := hw' ▸ continued_onlyWorking hn' hj.1
      have hend : w'.workEnded = true := hw' ▸ continued_workEnded (hs' ▸ hs) hl' hnone
      refine ⟨fun hjn => ?_, fun hjn => ?_⟩
      · rw [testEndOfWork_releases hend hk hjn]
        refine ⟨settled_answer ?_, answer_answered ?_⟩
        · rw [hww]
          rfl
        · subst hw' hs'
          exact (issueDrive_keeps _).1
      · have hend' : (x.tookOver c).entry.isEnd = false := by
          obtain ⟨-, hnot, -⟩ := hchain
          subst hx
          exact Bool.eq_false_iff.2 fun hisEnd => hnot ⟨hjn, hisEnd⟩
        have htarget : w'.travel.target = some (min (s.job.base + x.entry.distance) 4000000) := by
          subst hw' hs'
          rfl
        have hr := resultOf_worked (s := w') (k := s.queue.slots.length) (x := x.tookOver c) rfl none false
        have hhold := testEndOfWork_holds hend hk hjn hend' htarget
          (by subst hw' hs'; exact continued_noReady hno) rfl
        generalize resultOf (w'.queue.index s.queue.slots.length) (x.tookOver c) (w'.reachedBy (x.tookOver c)) w'.workedFinal none false
          none = r at hr hhold
        rw [hhold (SlotState.finished_ne_ready hr.finished)]
        refine ⟨r, ?_, settled_answer ?_, answer_answered ?_⟩
        · rw [hww]
          exact hr
        · rw [hww]
          rfl
        · subst hw' hs'
          exact (issueDrive_keeps _).1
end

namespace Sys2Proof.Machine

/-! ## What the stores hold: parameters, channels, trail and table on their own -/

/-- A clamped value lies in the range of its row (R43). -/
theorem clampParam_inRange {n : Nat} (hn : n < 21) (v : Nat) :
    (paramRange n).1 ≤ clampParam n v ∧ clampParam n v ≤ (paramRange n).2 := by
  have hr : (paramRange n).1 ≤ (paramRange n).2 := by
    have : ∀ n, n < 21 → (paramRange n).1 ≤ (paramRange n).2 := by decide
    exact this n hn
  unfold clampParam
  omega

/-- The rows of the table of R43 after one of them has been stored; a choice is stored by its code. -/
theorem Params.values_put (p : Params) {n v : Nat} (hn : n < 21) (hv : v ≤ (paramRange n).2) :
    (p.put n v).values = p.values.set n v := by
  have choice (h : v ≤ 1) : (if v = 0 then 0 else 1) = v := by split <;> omega
  interval_cases n
  · simpa [Params.put, Params.values] using choice hv
  · simpa [Params.put, Params.values] using choice hv
  · simpa [Params.put, Params.values] using choice hv
  all_goals rfl

theorem Params.InRange.put {p : Params} (h : p.InRange) {n : Nat} (hn : n < 21) (v : Nat) :
    (p.put n (clampParam n v)).InRange := by
  intro m hm w hw
  obtain ⟨hlo, hhi⟩ := clampParam_inRange hn v
  rw [Params.values_put p hn hhi, List.getElem?_set] at hw
  split at hw
  · next hnm =>
    subst hnm
    obtain rfl : clampParam n v = w := by
      split at hw
      · exact Option.some_inj.1 hw
      · cases hw
    exact ⟨hlo, hhi⟩
  · exact h m hm w hw

theorem Params.InRange.setRows {body : List Byte} {ns : List Nat} (hns : ∀ n ∈ ns, n < 21) :
    ∀ {p : Params}, p.InRange → (Params.setRows body ns p).InRange := by
  induction ns with
  | nil => exact fun h => h
  | cons n ns ih =>
    intro p h
    have hrest {q : Params} (hq : q.InRange) := ih (fun m hm => hns m (List.mem_cons_of_mem _ hm)) hq
    unfold Params.setRows
    split
    · exact hrest (h.put (hns n List.mem_cons_self) _)
    · exact hrest h

theorem Params.InRange.update {p : Params} (h : p.InRange) (body : List Byte) : (p.update body).InRange :=
  h.setRows (fun _ hn => List.mem_range.1 hn)

/-- One sample leaves a channel within its bounds (R86). -/
theorem ChannelRec.Sound.take {c : Channel} {x : ChannelRec} (h : x.Sound c) (r : Reading) : (x.take c r).Sound c := by
  obtain ⟨hstate, hvalue⟩ := h
  unfold ChannelRec.take
  split
  · next hg =>
    simp only [goodReading, Bool.and_eq_true, decide_eq_true_eq] at hg
    obtain ⟨⟨-, hlo⟩, hhi⟩ := hg
    refine ⟨⟨rfl, rfl⟩, fun v hv => ?_⟩
    obtain rfl : r.value = v := Option.some_inj.1 hv
    exact ⟨hlo, hhi⟩
  · split
    · next hx =>
      rw [hx] at hstate
      exact ⟨⟨le_rfl, Nat.le_add_left 1 4, hstate.2⟩, hvalue⟩
    · next hx =>
      rw [hx] at hstate
      obtain ⟨h1, h5, hsome⟩ := hstate
      split
      · exact ⟨by rw [hx]; exact ⟨by simp, by simp only; omega, hsome⟩, hvalue⟩
      · exact ⟨by simp only; omega, hvalue⟩
    · exact ⟨hstate, hvalue⟩

theorem takeSample_sound {cs : Channels ChannelRec} (h : ∀ c, (cs.get c).Sound c) (sample : Channels Reading) (c : Channel) :
    ((takeSample cs sample).get c).Sound c := by
  have key (r : Reading) : ((cs.get c).take c r).Sound c := (h c).take r
  cases c with
  | press u => cases u <;> exact key _
  | _ => exact key _

/-- A residual that the trail may hold (R94). -/
def ResidualInRange (residual : Option (Int × Int)) : Prop :=
  ∀ v, residual = some v → -1500 ≤ v.1 ∧ v.1 ≤ 1500 ∧ -1500 ≤ v.2 ∧ v.2 ≤ 1500

theorem residualInRange_none : ResidualInRange none := fun _ h => by cases h

theorem clamp_mem {lo hi : Int} (h : lo ≤ hi) (x : Int) : lo ≤ clamp lo hi x ∧ clamp lo hi x ≤ hi := by
  rw [clamp_eq h]
  omega

/-- The residual is formed within its bounds (R67, R68). -/
theorem residualOf_inRange (r : Correction) (cs : Channels ChannelRec) : ResidualInRange (residualOf r cs) := by
  intro v hv
  unfold residualOf at hv
  dsimp only at hv
  split at hv
  · cases hv
  · obtain rfl := Option.some_inj.1 hv
    obtain ⟨h1, h2⟩ := clamp_mem (lo := -1500) (hi := 1500) (by decide) (cs.line.current - r.d + r.rl)
    obtain ⟨h3, h4⟩ := clamp_mem (lo := -1500) (hi := 1500) (by decide) ((cs.get (levelChannel r.grade)).current + r.rv)
    exact ⟨h1, h2, h3, h4⟩

/-- Records in order of position, each with both residuals in range or with neither: the trail's records (R94). -/
theorem Trail.Sound.append {t : Trail} (h : t.Sound) (p : Int) {residual : Option (Int × Int)} (hr : ResidualInRange residual) :
    (t.append ⟨p, residual.map (·.1), residual.map (·.2)⟩).Sound := by
  obtain ⟨hlen, -, hsorted, hrecords⟩ := h
  obtain ⟨r, hrdef⟩ : ∃ r : TrailRecord, r = ⟨p, residual.map (·.1), residual.map (·.2)⟩ := ⟨_, rfl⟩
  obtain ⟨kept, hkept⟩ : ∃ l, l = t.records.filter (fun x => decide (x.position < r.position)) ++ [r] := ⟨_, rfl⟩
  have hlength : kept.length ≤ 33 := by
    have := List.length_filter_le (fun x => decide (x.position < r.position)) t.records
    simp only [hkept, List.length_append, List.length_singleton]
    omega
  have hpair : kept.Pairwise fun x y => x.position < y.position := by
    rw [hkept]
    refine List.pairwise_append.2 ⟨hsorted.filter _, List.pairwise_singleton _ _, fun x hx y hy => ?_⟩
    obtain rfl := List.mem_singleton.1 hy
    simpa using (List.mem_filter.1 hx).2
  have hnew : r.line.isSome = r.level.isSome ∧ (∀ v, r.line = some v → -1500 ≤ v ∧ v ≤ 1500) ∧
      (∀ v, r.level = some v → -1500 ≤ v ∧ v ≤ 1500) := by
    subst hrdef
    cases residual with
    | none => simp
    | some w =>
      obtain ⟨h1, h2, h3, h4⟩ := hr w rfl
      exact ⟨rfl, fun v hv => Option.some_inj.1 hv ▸ ⟨h1, h2⟩, fun v hv => Option.some_inj.1 hv ▸ ⟨h3, h4⟩⟩
  have hall : ∀ x ∈ kept, x.line.isSome = x.level.isSome ∧ (∀ v, x.line = some v → -1500 ≤ v ∧ v ≤ 1500) ∧
      (∀ v, x.level = some v → -1500 ≤ v ∧ v ≤ 1500) := by
    intro x hx
    rw [hkept, List.mem_append, List.mem_singleton] at hx
    rcases hx with hx | rfl
    · exact hrecords x (List.mem_filter.1 hx).1
    · exact hnew
  have happ : t.append r = ⟨if 32 < kept.length then kept.drop 1 else kept, (t.count + 1) % 65536⟩ := by
    rw [hkept]
    rfl
  rw [← hrdef, happ]
  refine ⟨?_, by simp only; omega, ?_, ?_⟩
  · dsimp only
    split
    · rw [List.length_drop]
      omega
    · omega
  · dsimp only
    split
    · exact hpair.drop
    · exact hpair
  · dsimp only
    split
    · exact fun x hx => hall x (List.mem_of_mem_drop hx)
    · exact hall

theorem emptyTrail_sound : Trail.Sound ⟨[], 0⟩ := ⟨by decide, by decide, List.Pairwise.nil, by simp⟩

theorem DesignTable.empty_sound : DesignTable.empty.Sound := by
  simp [DesignTable.Sound, DesignTable.empty, DesignTable.count]

theorem DesignTable.opened_sound {count : Nat} (h1 : 1 ≤ count) (h2 : count ≤ 128) (check : Word) :
    (DesignTable.opened count check).Sound := by
  simp [DesignTable.Sound, DesignTable.opened, DesignTable.count, h1, h2]

theorem DesignTable.Sound.restarted {t : DesignTable} (h : t.Sound) : t.restarted.Sound := by
  unfold DesignTable.restarted
  split
  · exact h
  · exact DesignTable.empty_sound

/-- A closed table is VALID only with all that was declared (R78). -/
theorem DesignTable.Sound.closed {t : DesignTable} (h : t.Sound) : t.closed.Sound := by
  obtain ⟨hlen, hmax, hdecl, hseg, hmeet, -, -⟩ := h
  refine ⟨hlen, hmax, hdecl, hseg, hmeet, fun he => ?_, fun hv => ?_⟩
  · simp only [DesignTable.closed] at he
    split at he <;> cases he
  · have hout : t.outcome = .valid := by
      by_contra hne
      simp [DesignTable.closed, hne] at hv
    unfold DesignTable.outcome at hout
    split at hout
    · cases hout
    · next hcount =>
      split at hout
      · cases hout
      · next hcheck =>
        have hcount : t.segments.length = t.count := not_not.1 hcount
        obtain ⟨⟨n, c⟩, hd, hc⟩ := Option.map_eq_some_iff.1 (not_not.1 hcheck)
        have hn : t.count = n := by simp [DesignTable.count, hd]
        exact ⟨hcount, by rw [show t.closed.declared = t.declared from rfl, hd]; exact hn ▸ hc ▸ rfl, hn ▸ hdecl n c hd⟩

/-- An offered segment that passes its six tests fits its kind (R72, R73). -/
theorem OfferedSegment.stored_fits {g : OfferedSegment} {x : Segment} (hm : g.misfit = none) (hx : g.stored = some x) : x.Fits := by
  obtain ⟨k, hk, rfl⟩ := Option.map_eq_some_iff.1 hx
  unfold OfferedSegment.misfit at hm
  split_ifs at hm with h1 h2 h3 h4 h5 h6
  simp only [within, Bool.not_eq_true, Bool.not_eq_false', Bool.and_eq_true, decide_eq_true_eq] at h2 h3 h4 h5 h6
  refine ⟨h2.1, h2.2, h3.1, h3.2, h4.1.1, h4.1.2, h4.2.1, h4.2.2, h5.1.1, h5.1.2, h5.2.1, h5.2.2, ?_⟩
  unfold OfferedSegment.ruleHolds at h6
  rw [hk] at h6
  cases k with
  | straight => simpa [and_assoc] using h6
  | curve => simpa [and_assoc] using h6
  | transition => simpa using h6

/-- The five tests of a segment (R75). -/
theorem DesignTable.segmentRefusal_none {t : DesignTable} {g : OfferedSegment} (h : t.segmentRefusal g = none) :
    t.state = .loading ∧ g.index < t.count ∧ g.index = t.segments.length ∧ g.misfit = none ∧ t.meets g = true := by
  unfold DesignTable.segmentRefusal at h
  split at h
  · cases h
  · next hstate =>
    split at h
    · cases h
    · next hcount =>
      split at h
      · cases h
      · next hindex =>
        split at h
        · cases h
        · next hmisfit =>
          split at h
          · next hmeets => exact ⟨not_not.1 hstate, Nat.lt_of_not_le hcount, not_not.1 hindex, hmisfit, hmeets⟩
          · cases h

/-- An element of a list with one more at its end. -/
theorem getElem?_concat_cases {l : List Segment} {x y : Segment} {i : Nat} (h : (l ++ [x])[i]? = some y) :
    l[i]? = some y ∨ (i = l.length ∧ x = y) := by
  rw [List.getElem?_append] at h
  split at h
  · exact .inl h
  · obtain ⟨hi, hy⟩ := List.getElem?_eq_some_iff.1 h
    simp only [List.length_singleton] at hi
    exact .inr ⟨by omega, by simpa using hy⟩

theorem DesignTable.Sound.store {t : DesignTable} {g : OfferedSegment} {x : Segment} (h : t.Sound)
    (hg : t.segmentRefusal g = none) (hx : g.stored = some x) : (t.store x).Sound := by
  obtain ⟨hstate, hcount, hindex, hmisfit, hmeets⟩ := DesignTable.segmentRefusal_none hg
  have hfits := OfferedSegment.stored_fits hmisfit hx
  obtain ⟨k, -, hxk⟩ := Option.map_eq_some_iff.1 hx
  have hxi : x.index = t.segments.length := by rw [← hxk, ← hindex]
  have hxs : x.start = g.start := by rw [← hxk]
  obtain ⟨-, hmax, hdecl, hseg, hmeet, -, -⟩ := h
  refine ⟨?_, hmax, hdecl, fun i y hy => ?_, fun i y z hy hz => ?_, fun he => ?_, fun hv => ?_⟩
  · show (t.segments ++ [x]).length ≤ t.count
    rw [List.length_append, List.length_singleton]
    omega
  · rcases getElem?_concat_cases hy with hy | ⟨rfl, rfl⟩
    · exact hseg i y hy
    · exact ⟨hxi, hfits⟩
  · rcases getElem?_concat_cases hz with hz | ⟨hi, rfl⟩
    · rcases getElem?_concat_cases hy with hy | ⟨hi, -⟩
      · exact hmeet i y z hy hz
      · have := (List.getElem?_eq_some_iff.1 hz).1
        omega
    · rcases getElem?_concat_cases hy with hy | ⟨hi', -⟩
      · have hm : g.index - 1 = i := by omega
        rw [DesignTable.meets, hm, hy] at hmeets
        have hne : g.index ≠ 0 := by omega
        exact hxs.trans (by simpa [hne] using hmeets : g.start = y.stop)
      · omega
  · cases hstate.symm.trans he
  · cases hstate.symm.trans hv

end Sys2Proof.Machine

namespace Sys2Proof.Machine

/-! ## The position base and the target: what leaves them as they are -/

@[simp] theorem issueDrive_target (s : State) : (issueDrive s).travel.target = s.travel.target := by
  rw [issueDrive_eq]

@[simp] theorem positionerIdle_target (s : State) : (positionerIdle s).travel.target = s.travel.target := by
  simp [positionerIdle]

@[simp] theorem conclude_target (s : State) : (conclude s).travel.target = s.travel.target := by simp [conclude]

@[simp] theorem stickUnit_target (u : UnitId) (s : State) : (stickUnit u s).travel.target = s.travel.target := by
  simp [stickUnit]

@[simp] theorem startPositioning_target (s : State) : (startPositioning s).travel.target = s.travel.target := by
  simp only [startPositioning, State.setTravel_reads]
  split_ifs <;> rfl

@[simp] theorem setPhase_base (p : Option Phase) (s : State) : (setPhase p s).job.base = s.job.base := rfl

@[simp] theorem continueChain_base (k : Nat) (b : Bool) (s : State) : (continueChain k b s).job.base = s.job.base := rfl

@[simp] theorem positionEntry_plan (s : State) :
    (positionEntry s).job.base = s.job.base ∧ (positionEntry s).travel.target = s.travel.target := by
  unfold positionEntry
  split <;> simp

@[simp] theorem completeJob_plan (s : State) :
    (completeJob s).job.base = s.job.base ∧ (completeJob s).travel.target = s.travel.target := by
  simp [completeJob]

@[simp] theorem pauseAtFinish_plan (s : State) :
    (pauseAtFinish s).job.base = s.job.base ∧ (pauseAtFinish s).travel.target = s.travel.target := by
  simp [pauseAtFinish]

@[simp] theorem starve_plan (s : State) :
    (starve s).job.base = s.job.base ∧ (starve s).travel.target = s.travel.target := by
  simp [starve]

@[simp] theorem beginRelease_base (s : State) : (beginRelease s).job.base = s.job.base := by simp [beginRelease]

@[simp] theorem giveUpHold_base (s : State) : (giveUpHold s).job.base = s.job.base := by simp [giveUpHold]

@[simp] theorem commonRetreat_target (p : Bool) (s : State) : (commonRetreat p s).travel.target = s.travel.target := by
  simp [commonRetreat]

@[simp] theorem raiseFault_plan (c : FaultCode) (x : FaultSource) (s : State) :
    (raiseFault c x s).job.base = s.job.base ∧ (raiseFault c x s).travel.target = s.travel.target := by
  unfold raiseFault
  split <;> simp [halt, recordFurther]

@[simp] theorem inPosition_plan (s : State) :
    (inPosition s).job.base = s.job.base ∧ (inPosition s).travel.target = s.travel.target := by
  unfold inPosition
  dsimp only
  (repeat' split) <;> simp

@[simp] theorem unitSet_base (s : State) : (unitSet s).job.base = s.job.base := by
  unfold unitSet
  split <;> simp

@[simp] theorem shiftDone_base (u : UnitId) (s : State) : (shiftDone u s).job.base = s.job.base := by
  unfold shiftDone
  dsimp only
  split <;> simp

@[simp] theorem travelFault_plan (c : FaultCode) (s : State) :
    (travelFault c s).job.base = s.job.base ∧ (travelFault c s).travel.target = s.travel.target := by
  simp [travelFault]

@[simp] theorem afterStep_plan (b : Bool) (s : State) :
    (afterStep b s).job.base = s.job.base ∧ (afterStep b s).travel.target = s.travel.target := by
  unfold afterStep
  (repeat' split) <;> simp

@[simp] theorem judgeRest_plan (s : State) :
    (judgeRest s).job.base = s.job.base ∧ (judgeRest s).travel.target = s.travel.target := by
  unfold judgeRest
  dsimp only
  (repeat' split) <;> simp

@[simp] theorem unitEvent_target (s : State) : (unitEvent s).travel.target = s.travel.target := by simp [unitEvent]

@[simp] theorem lluEvent_target (s : State) : (lluEvent s).travel.target = s.travel.target := by simp [lluEvent]

@[simp] theorem unitStuck_plan (u : UnitId) (s : State) :
    (unitStuck u s).job.base = s.job.base ∧ (unitStuck u s).travel.target = s.travel.target := by
  simp [unitStuck]

@[simp] theorem insertionExpired_plan (u : UnitId) (s : State) :
    (insertionExpired u s).job.base = s.job.base ∧ (insertionExpired u s).travel.target = s.travel.target := by
  unfold insertionExpired blockInsertion
  dsimp only
  (repeat' split) <;> simp

@[simp] theorem clampDone_plan (s : State) :
    (clampDone s).job.base = s.job.base ∧ (clampDone s).travel.target = s.travel.target := by
  unfold clampDone
  dsimp only
  split <;> simp

@[simp] theorem clampFailed_plan (s : State) :
    (clampFailed s).job.base = s.job.base ∧ (clampFailed s).travel.target = s.travel.target := by
  simp [clampFailed]

@[simp] theorem lluSensorLost_plan (s : State) :
    (lluSensorLost s).job.base = s.job.base ∧ (lluSensorLost s).travel.target = s.travel.target := by
  simp [lluSensorLost]

/-! ## What keeps the stores within their ranges -/

/-- The blocks of `StoreSound` stand as they did. -/
def StoresKept (s t : State) : Prop :=
  t.params = s.params ∧ t.meas.channels = s.meas.channels ∧ t.trail = s.trail ∧ t.table = s.table ∧
  t.travel.p = s.travel.p ∧ t.job.base = s.job.base ∧ t.travel.target = s.travel.target

theorem StoreSound.congr {s t : State} (h : StoreSound s) (hk : StoresKept s t) : StoreSound t := by
  obtain ⟨hparams, hmeas, htrail, htable, hp, hbase, htarget⟩ := hk
  rw [StoreSound, TravelSound, hparams, hmeas, htrail, htable, hp, hbase, htarget]
  exact h

/-- The target lies within the range of P. -/
theorem TravelSound.goal {s : State} (h : TravelSound s) : 0 ≤ s.travel.goal ∧ s.travel.goal ≤ 4000000 := by
  obtain ⟨-, -, -, -, ht⟩ := h
  unfold Travel.goal
  cases hs : s.travel.target with
  | none => decide
  | some t => exact ht t hs

/-- The position base becomes T. -/
theorem StoreSound.rebase {s t : State} (h : StoreSound s) (hk : StoresKept (baseToTarget s) t) : StoreSound t := by
  obtain ⟨hparams, hmeas, htrail, htravel, htable⟩ := h
  obtain ⟨h0, h1⟩ := htravel.goal
  obtain ⟨hlo, hhi, -, -, htarget⟩ := htravel
  exact StoreSound.congr (s := baseToTarget s) ⟨hparams, hmeas, htrail, ⟨hlo, hhi, h0, h1, htarget⟩, htable⟩ hk

/-- The target becomes that of an entry, within the range of P (R102). -/
theorem StoreSound.retarget {s : State} (h : StoreSound s) (e : Entry) :
    StoreSound (s.setTravel { s.travel with target := some (s.targetOf e) }) := by
  obtain ⟨hparams, hmeas, htrail, ⟨hlo, hhi, h0, h1, -⟩, htable⟩ := h
  refine ⟨hparams, hmeas, htrail, ⟨hlo, hhi, h0, h1, fun t ht => ?_⟩, htable⟩
  obtain rfl := Option.some_inj.1 ht
  unfold State.targetOf
  omega

theorem activate_storeSound {k : Nat} {s : State} (h : StoreSound s) : StoreSound (activate k s) := by
  unfold activate
  split
  · exact h
  · next x _ =>
    refine (h.retarget x.entry).congr ?_
    dsimp only
    split <;> simp [StoresKept]

theorem finishHeld_storeSound {s : State} (h : StoreSound s) : StoreSound (finishHeld s) :=
  h.rebase (by simp [StoresKept, finishHeld, baseToTarget])

theorem endOfWork_storeSound (n : Nat) {s : State} (h : StoreSound s) : StoreSound (endOfWork n s) := by
  induction n generalizing s with
  | zero => exact h
  | succ n ih =>
    have hheld := finishHeld_storeSound h
    unfold endOfWork
    split
    · split
      · exact h
      · split
        · split
          · exact hheld.congr (by simp [StoresKept])
          · split
            · exact ih (activate_storeSound hheld)
            · exact hheld
        · exact h.congr (by simp [StoresKept])
    · exact h

theorem testEndOfWork_storeSound {s : State} (h : StoreSound s) : StoreSound (testEndOfWork s) := endOfWork_storeSound _ h

theorem activateSlot_storeSound {k : Nat} {s : State} (h : StoreSound s) : StoreSound (activateSlot k s) :=
  testEndOfWork_storeSound (activate_storeSound h)

theorem nextOrStarve_storeSound {s : State} (h : StoreSound s) : StoreSound (nextOrStarve s) := by
  unfold nextOrStarve
  split
  · exact activateSlot_storeSound h
  · exact h.congr (by simp [StoresKept])

theorem pauseOrNext_storeSound {s : State} (h : StoreSound s) : StoreSound (pauseOrNext s) := by
  unfold pauseOrNext
  split
  · exact h.congr (by simp [StoresKept])
  · exact nextOrStarve_storeSound h

theorem finishTests_storeSound {b : Bool} {e : Entry} {s : State} (h : StoreSound s) : StoreSound (finishTests b e s) := by
  unfold finishTests
  split
  · exact h.congr (by simp [StoresKept])
  · split
    · split
      · exact activateSlot_storeSound h
      · exact h
    · exact pauseOrNext_storeSound h

theorem entryLoaded_storeSound {s : State} (h : StoreSound s) : StoreSound (entryLoaded s) := by
  unfold entryLoaded
  split
  · split
    · exact activateSlot_storeSound h
    · exact h
  · exact h

theorem unitDone_storeSound {u : UnitId} {s : State} (h : StoreSound s) : StoreSound (unitDone u s) := by
  unfold unitDone
  split
  · exact testEndOfWork_storeSound (h.congr (by simp [StoresKept]))
  · exact testEndOfWork_storeSound (h.congr (by simp [StoresKept]))
  · exact h
  · exact h

theorem parkDone_storeSound {u : UnitId} {s : State} (h : StoreSound s) : StoreSound (parkDone u s) := by
  have hp : StoreSound (parkUnit u (endMotion u s)) := h.congr (by simp [StoresKept])
  unfold parkDone
  dsimp only
  split
  · exact unitDone_storeSound hp
  · exact hp

theorem lluReportsOpen_storeSound {r : Option (Int × Int)} {s : State} (h : StoreSound s) : StoreSound (lluReportsOpen r s) := by
  unfold lluReportsOpen
  split
  · split
    · exact finishTests_storeSound (h.rebase (by simp [StoresKept, baseToTarget]))
    · exact pauseOrNext_storeSound (h.congr (by simp [StoresKept]))
  · exact h

/-! ### Samples -/

theorem StoreSound.appendTrail {s : State} (h : StoreSound s) (p : Int) {residual : Option (Int × Int)}
    (hr : ResidualInRange residual) :
    StoreSound (s.setTrail (s.trail.append ⟨p, residual.map (·.1), residual.map (·.2)⟩)) := by
  obtain ⟨hparams, hmeas, htrail, htravel, htable⟩ := h
  exact ⟨hparams, hmeas, htrail.append p hr, htravel, htable⟩

theorem endMeasurement_storeSound {r : Correction} {residual : Option (Int × Int)} {s : State} (h : StoreSound s)
    (hr : ResidualInRange residual) : StoreSound (endMeasurement r residual s) :=
  lluReportsOpen_storeSound ((h.appendTrail r.c hr).congr (by simp [StoresKept]))

theorem settleSample_storeSound {s : State} (h : StoreSound s) : StoreSound (settleSample s) := by
  have hc : ∀ f, StoreSound (changeLlu f s) := fun f => h.congr (by simp [StoresKept])
  unfold settleSample
  split
  · next r _ =>
    split
    · next res hres => exact endMeasurement_storeSound h (hres ▸ residualOf_inRange r s.meas.channels)
    · dsimp only
      split
      · exact hc _
      · exact endMeasurement_storeSound (hc _) residualInRange_none
  all_goals exact h

theorem liftSample_storeSound {s : State} (h : StoreSound s) : StoreSound (liftSample s) := by
  unfold liftSample
  split
  · exact testEndOfWork_storeSound (h.congr (by simp [StoresKept]))
  · exact h.congr (by simp [StoresKept])

theorem lluSample_storeSound {before : Channels ChannelRec} {s : State} (h : StoreSound s) : StoreSound (lluSample before s) := by
  have hf : StoreSound (formAchieved s) := h.congr (by simp [StoresKept])
  have hl : StoreSound (lluSensorLost s) := h.congr (by simp [StoresKept])
  unfold lluSample
  split
  · split
    · exact h
    · split
      · exact hl
      · exact h
  · split
    · exact hf
    · split
      · exact hl
      · exact liftSample_storeSound h
  · split
    · exact h
    · exact settleSample_storeSound h
  all_goals exact h

theorem takeSampleStep_storeSound {sample : Channels Reading} {s : State} (h : StoreSound s) :
    StoreSound (takeSampleStep sample s) := by
  obtain ⟨hparams, hmeas, htrail, htravel, htable⟩ := h
  have hu : StoreSound (updateChannels sample s) := ⟨hparams, takeSample_sound hmeas sample, htrail, htravel, htable⟩
  exact (lluSample_storeSound (before := s.meas.channels) hu).congr (by simp [StoresKept, takeSampleStep])

end Sys2Proof.Machine

namespace Sys2Proof.Machine

/-! ### Requests -/

theorem takeRequest_storeSound {f : Frame} {fits reading : Bool} {owner : State → State × Answer} {s : State} (h : StoreSound s)
    (ho : ∀ t, StoreSound t → StoreSound (owner t).1) : StoreSound (takeRequest f fits reading owner s) :=
  takeRequest_holds (fun _ _ ht => ht) h fun _ _ ht => ho _ ht

theorem readRequest_storeSound {f : Frame} {fits : Bool} {a : State → Answer} {s : State} (h : StoreSound s) :
    StoreSound (readRequest f fits a s) := takeRequest_storeSound h fun _ ht => ht

theorem StoreSound.setTable {s : State} (h : StoreSound s) {t : DesignTable} (ht : t.Sound) : StoreSound (s.setTable t) := by
  obtain ⟨hparams, hmeas, htrail, htravel, -⟩ := h
  exact ⟨hparams, hmeas, htrail, htravel, ht⟩

theorem parametersOwner_storeSound {body : List Byte} {s : State} (h : StoreSound s) : StoreSound (parametersOwner body s).1 := by
  unfold parametersOwner
  split
  · exact h
  · obtain ⟨hparams, hmeas, htrail, htravel, htable⟩ := h
    have hp : StoreSound (s.setParams (s.params.update body)) := ⟨hparams.update body, hmeas, htrail, htravel, htable⟩
    dsimp only
    split
    · exact hp.congr (by simp [StoresKept])
    · exact hp

theorem loadOwner_storeSound {body : List Byte} {s : State} (h : StoreSound s) : StoreSound (loadOwner body s).1 := by
  unfold loadOwner
  dsimp only
  split
  · exact h
  · have he := entryLoaded_storeSound (s := s.setQueue (s.queue.load (clampEntry (decodeEntry body)))) h
    exact he.congr (by simp [StoresKept])

theorem clearOwner_storeSound {s : State} (h : StoreSound s) : StoreSound (clearOwner s).1 := by
  unfold clearOwner
  split <;> exact h

/-- A job starts with P and the position base at 0 and an empty trail (R27). -/
theorem prepareJob_storeSound {s : State} (h : StoreSound s) : StoreSound (prepareJob s) := by
  obtain ⟨hparams, hmeas, -, ⟨-, -, -, -, htarget⟩, htable⟩ := h
  exact ⟨hparams, hmeas, emptyTrail_sound, ⟨by simp [prepareJob], by simp [prepareJob], le_rfl, by simp [prepareJob], htarget⟩, htable⟩

theorem startOwner_storeSound {s : State} (h : StoreSound s) : StoreSound (startOwner s).1 := by
  unfold startOwner
  split
  · exact h
  · split
    · exact h
    · next k _ =>
      split
      · exact h
      · split
        · exact h
        · exact (activateSlot_storeSound (k := k) (prepareJob_storeSound h)).congr (by simp [StoresKept])

theorem pauseOwner_storeSound {s : State} (h : StoreSound s) : StoreSound (pauseOwner s).1 := by
  unfold pauseOwner
  split
  · exact h
  · split
    · exact h.congr (by simp [StoresKept, pauseNow])
    · exact h.congr (by simp [StoresKept])

theorem resumePhase_storeSound {s : State} (h : StoreSound s) : StoreSound (resumePhase s) := by
  unfold resumePhase
  split
  · exact h.congr (by simp [StoresKept])
  · split
    · exact activateSlot_storeSound h
    · exact h
  · exact nextOrStarve_storeSound h
  all_goals exact h

theorem resumeOwner_storeSound {s : State} (h : StoreSound s) : StoreSound (resumeOwner s).1 := by
  unfold resumeOwner
  split
  · exact h
  · have hr : StoreSound (resumePhase (s.setJob { s.job with state := .running })) := resumePhase_storeSound h
    exact hr.congr (by simp [StoresKept])

theorem leaveHalt_storeSound {s : State} (h : StoreSound s) : StoreSound (leaveHalt s) := h

theorem retryOwner_storeSound {s : State} (h : StoreSound s) : StoreSound (retryOwner s).1 := by
  unfold retryOwner
  split
  · exact h
  · split
    · exact h
    · next k x _ =>
      split
      · exact h
      · split
        · exact h
        · have ha : StoreSound (activateSlot k
              (leaveHalt (s.setQueue (s.queue.modify k fun y => { y with retries := y.retries + 1 })))) :=
            activateSlot_storeSound (leaveHalt_storeSound h)
          exact ha.congr (by simp [StoresKept])

/-- The residual of a given-up entry is within its bounds, and the position base becomes T (R40, R96). -/
theorem skipFaulted_storeSound {x : Slot} {s : State} (h : StoreSound s) : StoreSound (skipFaulted x s) := by
  have hres : ResidualInRange (x.copy.bind fun r => residualOf r s.meas.channels) := by
    cases x.copy with
    | none => exact residualInRange_none
    | some r => exact residualOf_inRange r s.meas.channels
  have ht : StoreSound (s.setTrail (s.trail.append (skipRecord s x.copy (x.copy.bind fun r => residualOf r s.meas.channels)))) :=
    h.appendTrail _ hres
  exact ht.rebase (by simp [StoresKept, skipFaulted, baseToTarget])

theorem skipOwner_storeSound {s : State} (h : StoreSound s) : StoreSound (skipOwner s).1 := by
  unfold skipOwner
  split
  · exact h
  · split
    · exact h
    · split
      · next x _ =>
        have hf : StoreSound (finishTests true x.entry (reportJob (leaveHalt (skipFaulted x s)))) :=
          finishTests_storeSound (leaveHalt_storeSound (skipFaulted_storeSound h))
        exact hf.congr (by simp [StoresKept])
      · have hn : StoreSound (nextOrStarve (reportJob (leaveHalt s))) := nextOrStarve_storeSound (leaveHalt_storeSound h)
        exact hn.congr (by simp [StoresKept])

theorem abortOwner_storeSound {s : State} (h : StoreSound s) : StoreSound (abortOwner s).1 := by
  unfold abortOwner
  split
  · exact h
  · exact h.congr (by simp [StoresKept, abortJob])

theorem parkAllOwner_storeSound {s : State} (h : StoreSound s) : StoreSound (parkAllOwner s).1 := by
  unfold parkAllOwner
  split
  · exact h.congr (by simp [StoresKept])
  · exact h

theorem openOwner_storeSound {body : List Byte} {s : State} (h : StoreSound s) : StoreSound (openOwner body s).1 := by
  unfold openOwner
  dsimp only
  split
  · exact h
  · split
    · exact h
    · next hc =>
      push Not at hc
      exact h.setTable (DesignTable.opened_sound hc.1 hc.2 _)

theorem segmentOwner_storeSound {body : List Byte} {s : State} (h : StoreSound s) : StoreSound (segmentOwner body s).1 := by
  have ⟨_, _, _, _, htable⟩ := h
  unfold segmentOwner
  dsimp only
  split
  · exact h
  · next hr hg => exact h.setTable (htable.store hr hg)
  · exact h

theorem closeOwner_storeSound {s : State} (h : StoreSound s) : StoreSound (closeOwner s).1 := by
  unfold closeOwner
  split
  · exact h
  · have ⟨_, _, _, _, htable⟩ := h
    exact h.setTable htable.closed

theorem startItem_storeSound {gi : Nat × Nat} {rest : List (Nat × Nat)} {s : State} (h : StoreSound s) :
    StoreSound (startItem gi rest s) := by
  unfold startItem
  dsimp only
  split
  · exact h
  · split
    · unfold destroyMemory
      split
      · exact h
      · exact StoreSound.setTable h DesignTable.empty_sound
    · exact h

theorem selfTestOwner_storeSound {body : List Byte} {s : State} (h : StoreSound s) : StoreSound (selfTestOwner body s).1 := by
  unfold selfTestOwner
  dsimp only
  split
  · exact h
  · split
    · exact h
    · split
      · exact h
      · exact startItem_storeSound h

theorem restartOwner_storeSound {s : State} (h : StoreSound s) : StoreSound (restartOwner s).1 := by
  unfold restartOwner
  split <;> exact h

/-! ### The step -/

theorem judgeItem_storeSound {s : State} (h : StoreSound s) : StoreSound (judgeItem s) := by
  unfold judgeItem
  dsimp only
  split
  · exact h.congr (by simp [StoresKept])
  · split
    · exact h.congr (by simp [StoresKept])
    · exact startItem_storeSound (h.congr (by simp [StoresKept]))

/-- P moves within the bounds of the travel counter (R100, R101). -/
theorem moved_storeSound {s : State} (h : StoreSound s) (mm : Int) :
    StoreSound (s.setTravel { s.travel with p := clamp travelLow travelHigh (s.travel.p + mm) }) := by
  obtain ⟨hparams, hmeas, htrail, ⟨-, -, h0, h1, htarget⟩, htable⟩ := h
  obtain ⟨hlo, hhi⟩ := clamp_mem (lo := travelLow) (hi := travelHigh) (by decide) (s.travel.p + mm)
  exact ⟨hparams, hmeas, htrail, ⟨hlo, hhi, h0, h1, htarget⟩, htable⟩

/-- What a state with fresh stores needs is a sound table and parameters in range (R27, R87, R117). -/
theorem freshStores_sound {s : State} (hp : s.params.InRange) (ht : s.table.Sound) (hm : s.meas = .initial)
    (htrail : s.trail = ⟨[], 0⟩) (hpos : s.travel.p = 0) (htarget : s.travel.target = none) (hbase : s.job.base = 0) :
    StoreSound s := by
  rw [StoreSound, TravelSound, hm, htrail, hpos, htarget, hbase]
  exact ⟨hp, initialChannel_sound, emptyTrail_sound, by simp, ht⟩

theorem restartEffect_storeSound {s : State} (h : StoreSound s) :
    StoreSound (conclude (reportJob (restartBlocks (s.setLink s.link.restarted)))) := by
  obtain ⟨hparams, -, -, -, htable⟩ := h
  refine freshStores_sound ?_ ?_ ?_ ?_ ?_ ?_ ?_ <;> simp only [conclude_keeps, conclude_target, reportJob_keeps, restartBlocks]
  · simpa using hparams
  · simpa using htable.restarted
  · simp
  · simp
  · simp [Travel.initial]
  · simp [Travel.initial]
  · simp [Job.atPowerOn]

/-- A guarded event keeps the stores in range when what it does keeps them. -/
theorem ite_storeSound {p : Prop} [Decidable p] {s t : State} (h : StoreSound s) (ht : StoreSound t) :
    StoreSound (if p then t else s) := by
  split
  · exact ht
  · exact h

/-- Whatever a command answers, the stores are within their ranges when they were before. -/
theorem exec_storeSound (c : Instr) {s t : State} (h : StoreSound s) (ht : exec c s = .next t) : StoreSound t := by
  cases c with
  | powerOn park clampsOpen stopLine =>
    cases ht
    exact freshStores_sound defaultParams_inRange DesignTable.empty_sound rfl rfl rfl rfl rfl
  | identify tag body => cases ht; exact readRequest_storeSound h
  | readStatus tag body => cases ht; exact readRequest_storeSound h
  | setParameters tag body => cases ht; exact takeRequest_storeSound h fun _ => parametersOwner_storeSound
  | readParameters tag body => cases ht; exact readRequest_storeSound h
  | loadEntry tag body => cases ht; exact takeRequest_storeSound h fun _ => loadOwner_storeSound
  | collectResults tag body => cases ht; exact takeRequest_storeSound h fun _ ht => ht
  | readQueue tag body => cases ht; exact readRequest_storeSound h
  | clearQueue tag body => cases ht; exact takeRequest_storeSound h fun _ => clearOwner_storeSound
  | startJob tag body => cases ht; exact takeRequest_storeSound h fun _ => startOwner_storeSound
  | pauseJob tag body => cases ht; exact takeRequest_storeSound h fun _ => pauseOwner_storeSound
  | resumeJob tag body => cases ht; exact takeRequest_storeSound h fun _ => resumeOwner_storeSound
  | retryEntry tag body => cases ht; exact takeRequest_storeSound h fun _ => retryOwner_storeSound
  | skipEntry tag body => cases ht; exact takeRequest_storeSound h fun _ => skipOwner_storeSound
  | abortJob tag body => cases ht; exact takeRequest_storeSound h fun _ => abortOwner_storeSound
  | parkAll tag body => cases ht; exact takeRequest_storeSound h fun _ => parkAllOwner_storeSound
  | openTable tag body => cases ht; exact takeRequest_storeSound h fun _ => openOwner_storeSound
  | tableSegment tag body => cases ht; exact takeRequest_storeSound h fun _ => segmentOwner_storeSound
  | closeTable tag body => cases ht; exact takeRequest_storeSound h fun _ => closeOwner_storeSound
  | readTable tag body => cases ht; exact readRequest_storeSound h
  | readMeasurement tag body => cases ht; exact readRequest_storeSound h
  | readTrail tag body => cases ht; exact readRequest_storeSound h
  | selfTest tag body => cases ht; exact takeRequest_storeSound h fun _ => selfTestOwner_storeSound
  | restart tag body => cases ht; exact takeRequest_storeSound h fun _ => restartOwner_storeSound
  | unknownKindRequest kind tag body => cases ht; exact ite_storeSound h (h.congr (by simp [StoresKept]))
  | frameReceived b => cases ht; exact ite_storeSound h h
  | interByteTimeout => cases ht; exact h
  | frameSent => cases ht; exact h
  | restartEffect => cases ht; exact ite_storeSound h (restartEffect_storeSound h)
  | sampleArrival sample => cases ht; exact takeSampleStep_storeSound h
  | sampleTimerExpiry => cases ht; exact ite_storeSound h (takeSampleStep_storeSound h)
  | odometerStep mm => cases ht; exact (moved_storeSound h mm).congr (by simp [StoresKept])
  | positionSettleExpiry => cases ht; exact ite_storeSound h (h.congr (by simp [StoresKept]))
  | stopLineAssertion => cases ht; exact ite_storeSound (h.congr (by simp [StoresKept, assertStopLine, setStopLine])) h
  | stopLineRelease => cases ht; exact ite_storeSound h (h.congr (by simp [StoresKept, releaseStopLine, setStopLine]))
  | unitGrant u => cases ht; exact h.congr (by simp [StoresKept])
  | lluGrant => cases ht; exact h.congr (by simp [StoresKept])
  | shiftReached u n => cases ht; exact ite_storeSound h (h.congr (by simp [StoresKept]))
  | depthReached u n => cases ht; exact ite_storeSound h (h.congr (by simp [StoresKept]))
  | tinesOpen u n => cases ht; exact ite_storeSound h (h.congr (by simp [StoresKept]))
  | atMid u n => cases ht; exact ite_storeSound h (h.congr (by simp [StoresKept]))
  | atPark u n => cases ht; exact ite_storeSound h ((parkDone_storeSound (u := u) h).congr (by simp [StoresKept]))
  | shiftTimeout u => cases ht; exact ite_storeSound h (h.congr (by simp [StoresKept]))
  | insertionTimerExpiry u => cases ht; exact ite_storeSound h (h.congr (by simp [StoresKept]))
  | squeezeTimerExpiry u => cases ht; exact ite_storeSound h (h.congr (by simp [StoresKept]))
  | openTimeout u => cases ht; exact ite_storeSound h (h.congr (by simp [StoresKept]))
  | raiseMidTimeout u => cases ht; exact ite_storeSound h (h.congr (by simp [StoresKept]))
  | raiseParkTimeout u => cases ht; exact ite_storeSound h (h.congr (by simp [StoresKept]))
  | clamped n => cases ht; exact ite_storeSound h (h.congr (by simp [StoresKept]))
  | forceLimit n =>
    cases ht
    have hw : StoreSound (testEndOfWork (reachDemand (changeLlu (fun x => { x with lineForce := true }) s))) :=
      testEndOfWork_storeSound (h.congr (by simp [StoresKept]))
    exact ite_storeSound h (hw.congr (by simp [StoresKept]))
  | unclamped n => cases ht; exact ite_storeSound h (h.congr (by simp [StoresKept]))
  | clampTimeout => cases ht; exact ite_storeSound h (h.congr (by simp [StoresKept]))
  | liftTimerExpiry =>
    cases ht
    have hw : StoreSound (testEndOfWork (reachDemand (changeLlu (fun x => { x with liftShort := true }) s))) :=
      testEndOfWork_storeSound (h.congr (by simp [StoresKept]))
    exact ite_storeSound h (hw.congr (by simp [StoresKept]))
  | unclampTimeout => cases ht; exact ite_storeSound h (h.congr (by simp [StoresKept]))
  | joinHoldExpiry => cases ht; exact ite_storeSound h (h.congr (by simp [StoresKept]))
  | lluSettleExpiry => cases ht; exact ite_storeSound h (h.congr (by simp [StoresKept]))
  | valveReadback valve position => cases ht; exact ite_storeSound h h
  | selfTestItemExpiry => cases ht; exact ite_storeSound h ((judgeItem_storeSound h).congr (by simp [StoresKept]))
  | memoryMismatch wordRead wordWritten => cases ht; exact ite_storeSound h (h.congr (by simp [StoresKept]))
  | byteReceived b => cases ht; exact h

end Sys2Proof.Machine

section
open Sys2Proof Sys2Proof.Machine

/-- Settles O41: each command changes the stores by a few operations of their own, and each of these keeps its ranges. -/
theorem stepKeepsStoresSound : Obligations.StepKeepsStoresSound := by
  unfold Obligations.StepKeepsStoresSound
  intro s t h ht
  unfold step at ht
  split at ht
  · cases ht; exact h
  · next c rest _ => exact exec_storeSound c (s := { s with pending := rest }) h ht

end

namespace Sys2Proof.Machine

/-! ## Requests that reach their owner -/

/-- A request that changes something is answered as its owner says, whatever its effect. -/
theorem request_taken {c : Instr} {f : Frame} {fits : Bool} {owner : State → State × Answer} {s u : State} {a : Answer}
    (hfit : fits = true) (h : Takeable s f) (ht : s.test.running = false)
    (ho : owner (s.setLink s.link.taken) = (u, a)) (he : exec c s = .next (takeRequest f fits false owner s)) :
    exec c s = .next (answer f a u) := by
  rw [he, hfit, takeRequest_owner h (by simp [ht]), ho]

/-! ### The refusals by what is not at park, and by what is not there -/

theorem notParked_some {s : State} {d : Nat} (h : FirstNotParked s d) : s.notParked = some d := by
  have at_park (hu : ∀ u, (s.unit u).state = .parked) : s.units.lo.state = .parked ∧ s.units.li.state = .parked ∧
      s.units.ri.state = .parked ∧ s.units.ro.state = .parked := ⟨hu .lo, hu .li, hu .ri, hu .ro⟩
  rcases h with ⟨h1, rfl⟩ | ⟨h1, h2, rfl⟩ | ⟨h1, h2, h3, rfl⟩ | ⟨h1, h2, h3, h4, rfl⟩ | ⟨hu, hl, rfl⟩ | ⟨hu, hl, hf, rfl⟩
  · simp [State.notParked, h1]
  · simp [State.notParked, h1, h2]
  · simp [State.notParked, h1, h2, h3]
  · simp [State.notParked, h1, h2, h3, h4]
  · simp [State.notParked, at_park hu, hl]
  · simp [State.notParked, at_park hu, hl, hf]

/-- The runs a SELF TEST can name (R187, R189, R190). -/
theorem runItems_ne_nil {g i : Nat} : runItems g i ≠ [] ↔
    (g = 0 ∧ i = 0 ∨ g = 1 ∧ i ≤ 6 ∨ g = 2 ∧ i ≤ 9 ∨ g = 3 ∧ i ≤ 2) := by
  match g with
  | 0 =>
    by_cases hi : i = 0 <;> simp [runItems, groupItems, hi]
  | 1 | 2 | 3 =>
    by_cases hi : i = 0
    · simp [runItems, groupItems, hi]
    · simp [runItems, groupItems, hi]
      omega
  | n + 4 => simp [runItems, groupItems]

/-- START JOB without a READY entry. -/
theorem startOwner_empty {s : State} (hs : s.job.state = .idle) (hr : ∀ x ∈ s.queue.slots, x.state ≠ .ready) :
    startOwner s = (s, refuse 0x0009 .empty 0) := by
  simp [startOwner, hs, WorkQueue.readyPos_none.2 hr]

/-- A READY entry has a place. -/
theorem readyPos_of_exists {q : WorkQueue} (h : ∃ x ∈ q.slots, x.state = .ready) : ∃ k, q.readyPos = some k := by
  refine Option.ne_none_iff_exists'.1 fun hn => ?_
  obtain ⟨x, hx, hr⟩ := h
  exact WorkQueue.readyPos_none.1 hn x hx hr

theorem startOwner_notParked {s : State} {k d : Nat} (hs : s.job.state = .idle) (hk : s.queue.readyPos = some k)
    (hd : s.notParked = some d) : startOwner s = (s, refuse 0x0009 .notParked d) := by
  simp [startOwner, hs, hk, hd]

theorem startOwner_noTable {s : State} {k : Nat} (hs : s.job.state = .idle) (hk : s.queue.readyPos = some k) (hp : AtPark s)
    (hm : s.params.mode = .design) (ht : s.table.state ≠ .valid) :
    startOwner s = (s, refuse 0x0009 .noTable (tableCode s.table.state)) := by
  simp [startOwner, hs, hk, notParked_none hp, hm, ht]

theorem retryOwner_notParked {s : State} {k d : Nat} {x : Slot} (hs : s.job.state = .halted) (hk : OnlyWorking s.queue k x)
    (hf : x.state = .faulted) (hd : s.notParked = some d) : retryOwner s = (s, refuse 0x000C .notParked d) := by
  simp [retryOwner, hs, State.faultedSlot_eq hk hf, hd]

theorem retryOwner_retryLimit {s : State} {k : Nat} {x : Slot} (hs : s.job.state = .halted) (hk : OnlyWorking s.queue k x)
    (hf : x.state = .faulted) (hp : AtPark s) (hr : 3 ≤ x.retries) : retryOwner s = (s, refuse 0x000C .retryLimit x.retries) := by
  simp [retryOwner, hs, State.faultedSlot_eq hk hf, notParked_none hp, hr]

theorem skipOwner_notParked {s : State} {d : Nat} (hs : s.job.state = .halted) (hd : s.notParked = some d) :
    skipOwner s = (s, refuse 0x000D .notParked d) := by
  simp [skipOwner, hs, hd]

theorem selfTestOwner_noRun {g i : Byte} {s : State} (hs : s.job.state = .idle) (hr : runItems g.toNat i.toNat = []) :
    selfTestOwner [g, i] s = (s, refuse 0x0016 .wrongState (g.toNat * 256 + i.toNat)) := by
  have hr' : runItems (byteAt [g, i] 4) (byteAt [g, i] 5) = [] := hr
  simp only [selfTestOwner, hs, ne_eq, not_true, if_false, hr']
  rfl

theorem selfTestOwner_notParked {g i : Byte} {s : State} {d : Nat} (hs : s.job.state = .idle)
    (hr : runItems g.toNat i.toNat ≠ []) (hd : s.notParked = some d) :
    selfTestOwner [g, i] s = (s, refuse 0x0016 .notParked d) := by
  obtain ⟨first, rest, hr⟩ := List.exists_cons_of_ne_nil hr
  have hr' : runItems (byteAt [g, i] 4) (byteAt [g, i] 5) = first :: rest := hr
  simp [selfTestOwner, hs, hr', hd]

end Sys2Proof.Machine

section
open Sys2Proof Sys2Proof.Machine

/-- Settles O22: each owner makes its tests in the order of its rule, and the first that fails answers and changes nothing. -/
theorem startAndRecoveryRefusals : Obligations.StartAndRecoveryRefusals := by
  unfold Obligations.StartAndRecoveryRefusals
  intro tag s d ht
  have hpark (hd : FirstNotParked s d) : (s.setLink s.link.taken).notParked = some d :=
    notParked_some (s := s.setLink s.link.taken) hd
  refine ⟨fun h hs hr => ?_, fun h hs hr hd => ?_, fun h hs hr hp hm htab => ?_, fun k x h hs hk hf hd => ?_,
    fun k x h hs hk hf hp hret => ?_, fun h hs hd => ?_, fun g i h hs hrun => ?_, fun g i h hs hrun hd => ?_⟩
  · exact request_refused rfl h ht (startOwner_empty (s := s.setLink s.link.taken) hs hr) rfl
  · obtain ⟨k, hk⟩ := readyPos_of_exists hr
    exact request_refused rfl h ht (startOwner_notParked (s := s.setLink s.link.taken) hs hk (hpark hd)) rfl
  · obtain ⟨k, hk⟩ := readyPos_of_exists hr
    exact request_refused rfl h ht (startOwner_noTable (s := s.setLink s.link.taken) hs hk hp hm htab) rfl
  · exact request_refused rfl h ht (retryOwner_notParked (s := s.setLink s.link.taken) hs hk hf (hpark hd)) rfl
  · exact request_refused rfl h ht (retryOwner_retryLimit (s := s.setLink s.link.taken) hs hk hf hp hret) rfl
  · exact request_refused rfl h ht (skipOwner_notParked (s := s.setLink s.link.taken) hs (hpark hd)) rfl
  · have hr : runItems g.toNat i.toNat = [] := by_contra fun hne => hrun (runItems_ne_nil.1 hne)
    exact request_refused rfl h ht (selfTestOwner_noRun (s := s.setLink s.link.taken) hs hr) rfl
  · exact request_refused rfl h ht (selfTestOwner_notParked (s := s.setLink s.link.taken) hs (runItems_ne_nil.2 hrun) (hpark hd)) rfl

end

namespace Sys2Proof.Machine

/-! ## PAUSE JOB, START JOB, RESUME JOB, RETRY ENTRY and SET PARAMETERS -/

theorem pauseNow_eq (s : State) :
    pauseNow s = { s.idled with
      job := { s.job with state := .paused }
      link := s.link.place
        (.jobState ⟨.paused, s.job.phase, s.job.endReason, s.job.halt, s.job.pausePending, s.queue.activeIndex⟩) } := by
  rw [pauseNow, positionerIdle_eq]
  rfl

end Sys2Proof.Machine

section
open Sys2Proof Sys2Proof.Machine

/-- Settles O23: the phase decides between the pause at once and the mark. -/
theorem pauseStopsOrWaits : Obligations.PauseStopsOrWaits := by
  unfold Obligations.PauseStopsOrWaits
  intro tag s h ht hs
  refine ⟨fun hp => ?_, fun hp1 hp2 => ?_⟩
  · have ho : pauseOwner (s.setLink s.link.taken) = (pauseNow (s.setLink s.link.taken), .paused s.job.phase) := by
      simp [pauseOwner, hs, hp]
    rw [pauseNow_eq] at ho
    exact ⟨_, request_taken rfl h ht ho rfl, rfl, answer_answered rfl⟩
  · have ho : pauseOwner (s.setLink s.link.taken) =
        ((s.setLink s.link.taken).setJob { s.job with pausePending := true }, .paused s.job.phase) := by
      simp [pauseOwner, hs, hp1, hp2]
    exact ⟨_, request_taken rfl h ht ho rfl, rfl, answer_answered rfl⟩

end

namespace Sys2Proof.Machine

/-- The slot that an activation makes ACTIVE is the active one (R14). -/
theorem positioned_activeIndex {s : State} {k : Nat} {x : Slot} (hx : s.queue.slots[k]? = some x)
    (hn : ∀ j y, j ≠ k → s.queue.slots[j]? = some y → y.state ≠ .active ∧ y.state ≠ .faulted) :
    (s.positioned k x).queue.activeIndex = some ((s.queue.oldest + k) % 64) := by
  have hk : OnlyWorking (s.positioned k x).queue k { x with state := .active, kept := none } := by
    refine ⟨List.getElem?_set_self (List.getElem?_eq_some_iff.1 hx).1, .inl rfl, fun j y hj hy => ?_⟩
    rw [State.positioned, List.getElem?_set_ne (Ne.symm hj)] at hy
    exact hn j y hj hy
  rw [WorkQueue.activeIndex, hk.active.1]
  rfl

/-- An activation off a held track, its JOB STATE report and its drive order: what START JOB, RESUME JOB and RETRY ENTRY end with
(R27, R28, R36, R39). -/
theorem report_activated {m u : State} {k : Nat} {x : Slot} (hu : u = issueDrive (reportJob (activateSlot k m)))
    (hx : m.queue.slots[k]? = some x) (hl : m.llu.state ≠ .holding)
    (hn : ∀ j y, j ≠ k → m.queue.slots[j]? = some y → y.state ≠ .active ∧ y.state ≠ .faulted) :
    Activated m u k x m.travel.p ∧ u.travel.drive = u.driveDue ∧
    u.field = { m.field with
      sent := m.field.sent ++ (if m.travel.drive = u.travel.drive then [] else [.drive u.travel.drive]) } ∧
    u = { m with
      queue := u.queue, job := { m.job with phase := some .positioning, done := u.job.done }, llu := u.llu, units := u.units
      arb := u.arb, travel := u.travel, field := u.field
      link := m.link.place (.jobState ⟨m.job.state, some .positioning, m.job.endReason, m.job.halt, m.job.pausePending,
        some ((m.queue.oldest + k) % 64)⟩) } := by
  obtain ⟨v, hv⟩ : ∃ v, v = issueDrive (m.positioned k x) := ⟨_, rfl⟩
  obtain ⟨ha, hd, hf, heq⟩ := issueDrive_positioned m k x hv
  have huv : u = { v with link := m.link.place (.jobState ⟨m.job.state, some .positioning, m.job.endReason, m.job.halt,
      m.job.pausePending, some ((m.queue.oldest + k) % 64)⟩) } := by
    rw [hu, hv, activateSlot_positioned hx hl, ← positioned_activeIndex hx hn, issueDrive_eq, issueDrive_eq]
    rfl
  have hdue : u.driveDue = v.driveDue := by rw [huv]; rfl
  subst huv
  rw [← hd] at hf
  refine ⟨ha, hd, hf, ?_⟩
  rw [heq]

/-- With everything at park the drive order is the one that the Positioner wants (R104, R105). -/
theorem activated_wantedDrive {m u : State} {k : Nat} {x : Slot} (hu : u = issueDrive (reportJob (activateSlot k m)))
    (hx : m.queue.slots[k]? = some x) (hs : m.job.state = .running) (hp : AtPark m) :
    u.travel.drive = wantedDrive u.travel.state := by
  obtain ⟨hunits, hl, -⟩ := hp
  have hdue := positioned_driveDue (j := k) (y := x) hs hunits hl
  rw [activateSlot_positioned hx (by simp [hl]), issueDrive_eq] at hu
  subst hu
  exact hdue

theorem startOwner_starts {s : State} {k : Nat} {x : Slot} (hs : s.job.state = .idle) (hk : OldestReady s.queue k x)
    (hp : AtPark s) (hm : s.params.mode = .localMode ∨ s.table.state = .valid) :
    startOwner s = (issueDrive (reportJob (activateSlot k (prepareJob s))), .started (s.queue.index k)) := by
  have hmode : ¬ (s.params.mode = .design ∧ s.table.state ≠ .valid) := fun ⟨h1, h2⟩ =>
    h2 (hm.resolve_left (by simp [h1]))
  simp only [startOwner, hs, ne_eq, not_true, if_false, hk.readyPos, notParked_none hp, if_neg hmode]

/-- No other slot works when none does. -/
theorem NoneWorking.others {q : WorkQueue} (h : NoneWorking q) (k : Nat) :
    ∀ j y, j ≠ k → q.slots[j]? = some y → y.state ≠ .active ∧ y.state ≠ .faulted :=
  fun _ y _ hy => h y (List.mem_of_getElem? hy)

end Sys2Proof.Machine

section
open Sys2Proof Sys2Proof.Machine

/-- Settles O20: the job is prepared in one change of the state, and the oldest READY entry is activated. -/
theorem startBeginsAtTheOldestReady : Obligations.StartBeginsAtTheOldestReady := by
  unfold Obligations.StartBeginsAtTheOldestReady
  intro tag s k x h ht hs hk hn hp hm
  have hp' : AtPark (prepareJob (s.setLink s.link.taken)) := hp
  have hl : s.llu.state ≠ .holding := by simp [hp.2.1]
  obtain ⟨u, hu⟩ : ∃ u, u = issueDrive (reportJob (activateSlot k (prepareJob (s.setLink s.link.taken)))) := ⟨_, rfl⟩
  have he : exec (.startJob tag []) s = _ :=
    request_taken rfl h ht (hu ▸ startOwner_starts (s := s.setLink s.link.taken) hs hk hp hm) rfl
  obtain ⟨ha, -, hf, heq⟩ := report_activated (m := prepareJob (s.setLink s.link.taken)) hu hk.1 hl (hn.others k)
  have hd := activated_wantedDrive hu hk.1 rfl hp'
  refine ⟨_, he, ha, hd, ?_, ?_, ?_, ?_, ?_, ?_, ?_, hf, ?_, answer_answered ?_⟩
  all_goals rw [heq]; rfl

end

namespace Sys2Proof.Machine

/-- RESUME JOB that is taken: the job is RUNNING and the phase decides. -/
theorem resumeOwner_resumes {s : State} (hs : s.job.state = .paused) :
    resumeOwner s = (issueDrive (reportJob (resumePhase { s with job := { s.job with state := .running } })), .accepted) := by
  simp only [resumeOwner, hs, ne_eq, not_true, if_false]
  rfl

theorem resumePhase_positioning {s : State} (hp : s.job.phase = some .positioning) :
    resumePhase s = { s with travel := s.travel.started s.params } := by
  rw [resumePhase, hp]
  rfl

theorem resumePhase_activates {s : State} {k : Nat} {x : Slot} (hp : s.job.phase = some .starved ∨ s.job.phase = none)
    (hk : OldestReady s.queue k x) : resumePhase s = activateSlot k s := by
  rcases hp with hp | hp
  · simp only [resumePhase, hp, hk.readyPos]
  · simp only [resumePhase, hp, nextOrStarve, hk.readyPos]

/-- Without a READY entry the job stands STARVED with the Positioner IDLE; a phase that was STARVED stays so. -/
theorem resumePhase_starves {s : State} (hp : s.job.phase = some .starved ∨ s.job.phase = none)
    (hno : ∀ x ∈ s.queue.slots, x.state ≠ .ready) :
    resumePhase s = s ∧ s.job.phase = some .starved ∨
      resumePhase s = { s.idled with job := { s.job with phase := some .starved } } := by
  rcases hp with hp | hp
  · exact .inl ⟨by simp only [resumePhase, hp, WorkQueue.readyPos_none.2 hno], hp⟩
  · exact .inr (by rw [resumePhase, hp, ← starve_eq]; exact nextOrStarve_none hno)

/-- The report and the drive order after a RESUME JOB that finds nothing to work. -/
theorem resume_starves {m : State} (hp : m.job.phase = some .starved ∨ m.job.phase = none)
    (hi : m.travel.state = .idle) (hset : m.travel.settle = none) (hno : ∀ x ∈ m.queue.slots, x.state ≠ .ready) :
    issueDrive (reportJob (resumePhase m)) = { m with
      job := { m.job with phase := some .starved }
      travel := { m.travel with drive := .stop }, field := { m.field with sent := m.field.sent ++ m.stopOrders }
      link := m.link.place (.jobState
        ⟨m.job.state, some .starved, m.job.endReason, m.job.halt, m.job.pausePending, m.queue.activeIndex⟩) } := by
  rcases resumePhase_starves hp hno with ⟨hr, hst⟩ | hr
  · have hdue : (reportJob m).driveDue = .stop := driveDue_idle hi
    rw [hr, issueDrive_eq, hdue, ← hst]
    rfl
  · rw [hr, State.idled_eq hi hset]
    exact issueDrive_of_stop hi rfl

end Sys2Proof.Machine

section
open Sys2Proof Sys2Proof.Machine

/-- Settles O24: the three ways on from the phase, each with its report behind it. -/
theorem resumeGoesOnByPhase : Obligations.ResumeGoesOnByPhase := by
  unfold Obligations.ResumeGoesOnByPhase
  intro tag s h ht hs
  obtain ⟨m, hm⟩ : ∃ m : State, m = { s with link := s.link.taken, job := { s.job with state := .running } } := ⟨_, rfl⟩
  obtain ⟨u, hu⟩ : ∃ u, u = issueDrive (reportJob (resumePhase m)) := ⟨_, rfl⟩
  have ho : resumeOwner (s.setLink s.link.taken) = (u, .accepted) := by
    rw [hu, hm]
    exact resumeOwner_resumes (s := s.setLink s.link.taken) hs
  have he : exec (.resumeJob tag []) s = .next (answer ⟨0x000B, tag, []⟩ .accepted u) := request_taken rfl h ht ho rfl
  refine ⟨fun goal hp hg => ?_, fun hp hi hset hno => ?_, fun k x hp hk hn hl => ?_⟩
  · rw [resumePhase_positioning (s := m) (hm ▸ hp), issueDrive_eq] at hu
    subst hm hu
    refine ⟨_, he, rfl, ?_, rfl, rfl, ?_, answer_answered rfl⟩
    · exact Travel.started_positioned (t := s.travel) hg
    · have hdrive : (s.travel.started s.params).drive = s.travel.drive := Travel.started_drive _ _
      rw [← hdrive]
      rfl
  · have heq := hu.trans (resume_starves (m := m) (hm ▸ hp) (hm ▸ hi) (hm ▸ hset) (hm ▸ hno))
    subst hm
    exact ⟨_, he, heq ▸ rfl, answer_answered (congrArg State.link heq :)⟩
  · have hlm : m.llu.state ≠ .holding := by simp [hm, hl]
    have hkm : OldestReady m.queue k x := hm ▸ hk
    have hnm : NoneWorking m.queue := hm ▸ hn
    rw [resumePhase_activates (hm ▸ hp) hkm] at hu
    obtain ⟨ha, hd, hf, heq⟩ := report_activated hu hkm.1 hlm (hnm.others k)
    subst hm
    refine ⟨_, he, ha, ?_, ?_, ?_, ?_, ?_, ?_, ?_, ?_, hd, hf, answer_answered ?_⟩
    all_goals rw [heq]; rfl

end

namespace Sys2Proof.Machine

/-- RETRY ENTRY, once its tests have passed: the RETRY count rises and the job leaves HALTED (R39). -/
def State.retried (s : State) (k : Nat) (x : Slot) : State :=
  { s with
    queue := { s.queue with slots := s.queue.slots.set k { x with retries := x.retries + 1 } }
    job := { s.job with state := .running }
    arb := { s.arb with retreatMode := false } }

theorem retryOwner_retries {s : State} {k : Nat} {x : Slot} (hs : s.job.state = .halted) (hk : OnlyWorking s.queue k x)
    (hf : x.state = .faulted) (hp : AtPark s) (hr : x.retries < 3) :
    retryOwner s = (issueDrive (reportJob (activateSlot k (s.retried k x))), .accepted) := by
  have hret : ¬ 3 ≤ x.retries := by omega
  simp only [retryOwner, hs, ne_eq, not_true, if_false, State.faultedSlot_eq hk hf, notParked_none hp, if_neg hret,
    WorkQueue.modify, modify_eq_set hk.1]
  rfl

/-- The slot worked again is the only one at work. -/
theorem retried_slots {s : State} {k : Nat} {x : Slot} (hk : OnlyWorking s.queue k x) :
    (s.retried k x).queue.slots[k]? = some { x with retries := x.retries + 1 } ∧
    ∀ j y, j ≠ k → (s.retried k x).queue.slots[j]? = some y → y.state ≠ .active ∧ y.state ≠ .faulted := by
  obtain ⟨hx, -, hothers⟩ := hk
  refine ⟨List.getElem?_set_self (List.getElem?_eq_some_iff.1 hx).1, fun j y hj hy => hothers j y hj ?_⟩
  rwa [State.retried, List.getElem?_set_ne (Ne.symm hj)] at hy

end Sys2Proof.Machine

section
open Sys2Proof Sys2Proof.Machine

/-- Settles O25: the count rises and the halt is left in one change of the state, and the entry is activated. -/
theorem retryWorksTheEntryAgain : Obligations.RetryWorksTheEntryAgain := by
  unfold Obligations.RetryWorksTheEntryAgain
  intro tag s k x h ht hs hk hf hp hr
  obtain ⟨m, hm⟩ : ∃ m, m = (s.setLink s.link.taken).retried k x := ⟨_, rfl⟩
  obtain ⟨hx, hothers⟩ : _ ∧ _ := hm ▸ retried_slots (s := s.setLink s.link.taken) hk
  have hl : m.llu.state ≠ .holding := by
    rw [hm, State.retried]
    simp [hp.2.1]
  obtain ⟨u, hu⟩ : ∃ u, u = issueDrive (reportJob (activateSlot k m)) := ⟨_, rfl⟩
  have he : exec (.retryEntry tag []) s = .next (answer ⟨0x000C, tag, []⟩ .accepted u) :=
    request_taken rfl h ht (by rw [hu, hm]; exact retryOwner_retries (s := s.setLink s.link.taken) hs hk hf hp hr) rfl
  obtain ⟨ha, -, hfield, heq⟩ := report_activated hu hx hl hothers
  have hd := activated_wantedDrive hu hx (hm ▸ rfl) (hm ▸ hp)
  obtain ⟨hq, hrest⟩ := ha
  have hqueue : u.queue = { s.queue with
      slots := s.queue.slots.set k { x with retries := x.retries + 1, state := .active, kept := none } } := by
    rw [hq, hm, State.retried, List.set_set]
    rfl
  subst hm
  refine ⟨_, he, ⟨hqueue, hrest⟩, ?_, ?_, ?_, ?_, ?_, ?_, ?_, ?_, hd, hfield, answer_answered ?_⟩
  all_goals rw [heq]; rfl

end

namespace Sys2Proof.Machine

/-- A row after SET PARAMETERS: the present value clamped, and the row's own value otherwise (R43). -/
def Params.rowAfter (p : Params) (body : List Byte) (n : Nat) : Option Nat :=
  match paramAt body n with
  | some v => some (clampParam n v)
  | none => p.values[n]?

theorem Params.values_put_self (p : Params) {n : Nat} (hn : n < 21) (v : Nat) :
    (p.put n (clampParam n v)).values[n]? = some (clampParam n v) := by
  rw [Params.values_put p hn (clampParam_inRange hn v).2]
  exact List.getElem?_set_self hn

theorem Params.values_put_of_ne (p : Params) {m n : Nat} (hm : m < 21) (hne : m ≠ n) (v : Nat) :
    (p.put m (clampParam m v)).values[n]? = p.values[n]? := by
  rw [Params.values_put p hm (clampParam_inRange hm v).2]
  exact List.getElem?_set_ne hne

/-- The rows not yet visited stand as they were. -/
theorem Params.values_setRows_of_notMem {body : List Byte} {n : Nat} {ns : List Nat} (hns : ∀ m ∈ ns, m < 21) (hn : n ∉ ns) :
    ∀ p : Params, (Params.setRows body ns p).values[n]? = p.values[n]? := by
  induction ns with
  | nil => exact fun _ => rfl
  | cons m ns ih =>
    intro p
    have hm := hns m List.mem_cons_self
    obtain ⟨hne, hn⟩ : n ≠ m ∧ n ∉ ns := by simpa using hn
    have ih := ih (fun k hk => hns k (List.mem_cons_of_mem _ hk)) hn
    unfold Params.setRows
    split
    · rw [ih, Params.values_put_of_ne p hm (Ne.symm hne)]
    · exact ih p

theorem Params.values_setRows {body : List Byte} {n : Nat} {ns : List Nat} (hns : ∀ m ∈ ns, m < 21) (hnd : ns.Nodup) (hn : n ∈ ns) :
    ∀ p : Params, (Params.setRows body ns p).values[n]? = p.rowAfter body n := by
  induction ns with
  | nil => cases hn
  | cons m ns ih =>
    intro p
    obtain ⟨hmns, hnd⟩ := List.nodup_cons.1 hnd
    have hm := hns m List.mem_cons_self
    have hrest : ∀ k ∈ ns, k < 21 := fun k hk => hns k (List.mem_cons_of_mem _ hk)
    rcases List.mem_cons.1 hn with rfl | hn
    · unfold Params.setRows Params.rowAfter
      cases paramAt body n with
      | none => exact Params.values_setRows_of_notMem hrest hmns p
      | some v => exact (Params.values_setRows_of_notMem hrest hmns _).trans (p.values_put_self hm v)
    · have hne : m ≠ n := fun he => hmns (he ▸ hn)
      have hrow (v : Nat) : (p.put m (clampParam m v)).rowAfter body n = p.rowAfter body n := by
        rw [Params.rowAfter, Params.values_put_of_ne p hm hne]
        rfl
      unfold Params.setRows
      split
      · exact (ih hrest hnd hn _).trans (hrow _)
      · exact ih hrest hnd hn p

/-- SET PARAMETERS row by row (R43). -/
theorem Params.values_update (p : Params) (body : List Byte) {n : Nat} (hn : n < 21) :
    (p.update body).values[n]? = p.rowAfter body n :=
  Params.values_setRows (fun _ hm => List.mem_range.1 hm) List.nodup_range (List.mem_range.2 hn) p

/-- A row is clamped when its value lies outside its range (R43, R195). -/
theorem clampedRows_eq (body : List Byte) : clampedRows body = (List.range 21).filter fun n =>
    match paramAt body n with
    | some v => decide (v < (paramRange n).1) || decide ((paramRange n).2 < v)
    | none => false := by
  refine List.filter_congr fun n hn => ?_
  have hr := clampParam_inRange (List.mem_range.1 hn) 0
  cases paramAt body n with
  | none => rfl
  | some v =>
    rw [Bool.eq_iff_iff]
    simp only [bne_iff_ne, Bool.or_eq_true, decide_eq_true_eq]
    unfold clampParam at hr ⊢
    omega

/-- The grant-slot count is handed over when the request carries it (R43). -/
theorem parametersOwner_stores {body : List Byte} {s : State} (hs : s.job.state = .idle) :
    parametersOwner body s =
      ({ s with
          params := s.params.update body
          arb := if (paramAt body 20).isSome then s.arb.setSlots (s.params.update body).grantSlots else s.arb },
        .parametersSet (clampedRows body)) := by
  have hbit : (paramAt body 20).isSome = bit (paramMask body) 20 := by
    unfold paramAt
    split
    · next h => exact h.symm
    · next h => exact (Bool.eq_false_iff.2 h).symm
  simp only [parametersOwner, hs, ne_eq, not_true, if_false, hbit]
  split <;> rfl

/-- The slot count that comes into force at once, or waits for grants to be released (R169). -/
theorem Arbiter.setSlots_cases (n : Nat) (a : Arbiter) :
    if a.granted.length ≤ n then (a.setSlots n).slots = n ∧ (a.setSlots n).pendingN = none
    else a.setSlots n = { a with pendingN := some n } := by
  unfold Arbiter.setSlots
  split <;> simp

end Sys2Proof.Machine

section
open Sys2Proof Sys2Proof.Machine

/-- Settles O29: the update goes row by row, and row 20 is what the arbiter is handed. -/
theorem parametersAreClampedAndStored : Obligations.ParametersAreClampedAndStored := by
  unfold Obligations.ParametersAreClampedAndStored
  intro tag body s h hfit ht hs
  have he : exec (.setParameters tag body) s = _ :=
    request_taken hfit h ht (parametersOwner_stores (s := s.setLink s.link.taken) hs) rfl
  have hrow {n : Nat} (hn : n < 21) := s.params.values_update body hn
  refine ⟨_, he, rfl, fun n hn => ⟨fun v hv => ?_, fun hv => ?_⟩, fun hv => ?_, fun v hv => ?_, clampedRows_eq body ▸ answer_answered rfl⟩
  · exact (hrow hn).trans (by rw [Params.rowAfter, hv]; rfl)
  · exact (hrow hn).trans (by rw [Params.rowAfter, hv])
  · show (if (paramAt body 20).isSome then s.arb.setSlots (s.params.update body).grantSlots else s.arb) = s.arb
    rw [hv]
    rfl
  · have hslots : (s.params.update body).grantSlots = max 2 (min v 5) := by
      have := hrow (n := 20) (by decide)
      rw [Params.rowAfter, hv] at this
      exact Option.some_inj.1 this
    have harb : (if (paramAt body 20).isSome then s.arb.setSlots (s.params.update body).grantSlots else s.arb) =
        s.arb.setSlots (max 2 (min v 5)) := by
      rw [hv, hslots]
      rfl
    have hcases := Arbiter.setSlots_cases (max 2 (min v 5)) s.arb
    rw [← harb] at hcases
    exact hcases

end

namespace Sys2Proof.Machine

/-! ## One unit's change as one change of the state -/

/-- The unit `u` becomes `x`, the arbiter `a`, and the Field Side receives `orders`. -/
def State.unitStep (s : State) (u : UnitId) (x : TUnit) (a : Arbiter) (orders : List FieldOrder) : State :=
  { s with units := s.units.set u x, arb := a, field := { s.field with sent := s.field.sent ++ orders } }

@[simp] theorem unitStep_reads (s : State) (u : UnitId) (x : TUnit) (a : Arbiter) (orders : List FieldOrder) :
    (s.unitStep u x a orders).unit u = x ∧ (s.unitStep u x a orders).arb = a ∧ (s.unitStep u x a orders).queue = s.queue ∧
    (s.unitStep u x a orders).params = s.params ∧ (s.unitStep u x a orders).entryInWork = s.entryInWork :=
  ⟨Quad.get_set_self _ _ _, rfl, rfl, rfl, rfl⟩

@[simp] theorem unitStep_unitStep (s : State) (u : UnitId) (x y : TUnit) (a b : Arbiter) (orders more : List FieldOrder) :
    (s.unitStep u x a orders).unitStep u y b more = s.unitStep u y b (orders ++ more) := by
  simp [State.unitStep]

@[simp] theorem unitStep_self (s : State) (u : UnitId) : s.unitStep u (s.unit u) s.arb [] = s := by
  simp [State.unitStep, State.unit]

theorem changeUnit_step (u : UnitId) (f : TUnit → TUnit) (s : State) :
    changeUnit u f s = s.unitStep u (f (s.unit u)) s.arb [] := by
  simp [changeUnit, State.unitStep, State.setUnits]

theorem enterMotion_step (u : UnitId) (st : UnitState) (s : State) :
    enterMotion u st s = s.unitStep u ((s.unit u).asks st) (s.arb.request (.unit u)) [] := by
  simp [enterMotion, changeUnit_step, arbiter, State.setArb, State.unitStep, TUnit.asks]

theorem releaseGrant_step (u : UnitId) (s : State) :
    releaseGrant u s = s.unitStep u (s.unit u) (s.arb.release (.unit u)) [] := by
  simp [releaseGrant, arbiter, State.setArb, State.unitStep, State.unit]

/-- The CANCEL of the outstanding order, if there is one (R121). -/
def TUnit.cancels (u : UnitId) (x : TUnit) : List FieldOrder :=
  match x.order with
  | some (_, n) => [.unitCancel u n]
  | none => []

theorem cancelUnit_step (u : UnitId) (s : State) :
    cancelUnit u s = s.unitStep u (s.unit u).ended s.arb ((s.unit u).cancels u) := by
  unfold cancelUnit TUnit.cancels
  cases (s.unit u).order <;> simp [changeUnit_step, send, State.setField, State.unitStep, TUnit.ended]

theorem nextNumber_eq {n : Nat} (h : n ≤ 255) : nextNumber n = numberAfter n := by
  unfold nextNumber numberAfter
  split <;> omega

theorem orderUnit_step {u : UnitId} {s : State} (h : (s.unit u).orderNo ≤ 255) (o : UnitOrder) (ms : Nat) :
    orderUnit u o ms s = s.unitStep u ((s.unit u).ordered o ms) s.arb [.unit u o (numberAfter (s.unit u).orderNo)] := by
  simp [orderUnit, nextNumber_eq h, changeUnit_step, send, State.setField, State.unitStep, TUnit.ordered]

/-- A unit that waits has neither order nor timer (R119). -/
theorem TUnit.Shaped.waits {x : TUnit} (h : x.Shaped) (hw : x.waiting = true) : x.order = none ∧ x.timer = none := by
  obtain ⟨htimer, -, hmatch, -⟩ := h
  cases ho : x.order with
  | none => simpa [ho] using htimer
  | some o => simp [hw, ho] at hmatch

/-- A unit at rest waits for nothing and has neither order nor timer (R119). -/
theorem TUnit.Shaped.rests {x : TUnit} (h : x.Shaped) (hr : x.state.resting = true) :
    x.waiting = false ∧ x.order = none ∧ x.timer = none := by
  have hwait : x.waiting = false := by
    by_contra hw
    obtain ⟨-, -, hmatch, -⟩ := h
    rw [Bool.not_eq_false] at hw
    cases ho : x.order with
    | none => rw [hw, ho] at hmatch; revert hr hmatch; cases x.state <;> simp [UnitState.resting, UnitState.motion]
    | some o => simp [hw, ho] at hmatch
  obtain ⟨htimer, -, hmatch, -⟩ := h
  cases ho : x.order with
  | none => simpa [ho, hwait] using htimer
  | some o =>
    exfalso
    obtain ⟨o, n⟩ := o
    rw [hwait, ho] at hmatch
    revert hr
    obtain ⟨hf, -⟩ := hmatch
    revert hf
    cases o <;> cases x.state <;> simp [UnitState.resting, UnitOrder.fits]

/-- The unit gives its motion up: it waits for nothing and has no order, with its request or its grant returned (R122, R135). -/
theorem leaveMotion_step {u : UnitId} {s : State} (h : (s.unit u).Shaped) :
    leaveMotion u s = s.unitStep u { (s.unit u).ended with waiting := false }
      (if (s.unit u).waiting then s.arb.withdraw (.unit u) else s.arb.release (.unit u)) ((s.unit u).cancels u) := by
  unfold leaveMotion
  split
  · next hw =>
    obtain ⟨ho, ht⟩ := h.waits hw
    simp [changeUnit_step, arbiter, State.setArb, State.unitStep, TUnit.ended, TUnit.cancels, ho, ht]
  · next hw =>
    rw [Bool.not_eq_true] at hw
    simp [cancelUnit_step, releaseGrant_step, TUnit.ended, hw]

end Sys2Proof.Machine

namespace Sys2Proof.Machine

/-! ## The four units one after the other (log entry 6) -/

/-- Each unit becomes what `f` makes of it, the arbiter hears of the units in the order LO, LI, RI, RO, and so does the Field Side. -/
def State.unitsStep (s : State) (f : UnitId → TUnit → TUnit) (g : UnitId → TUnit → Arbiter → Arbiter)
    (o : UnitId → TUnit → List FieldOrder) : State :=
  { s with
    units := ⟨f .lo s.units.lo, f .li s.units.li, f .ri s.units.ri, f .ro s.units.ro⟩
    arb := UnitId.all.foldl (fun a u => g u (s.unit u) a) s.arb
    field := { s.field with sent := s.field.sent ++ UnitId.all.flatMap fun u => o u (s.unit u) } }

theorem unitsStep_unit (s : State) (f : UnitId → TUnit → TUnit) (g : UnitId → TUnit → Arbiter → Arbiter)
    (o : UnitId → TUnit → List FieldOrder) (u : UnitId) : (s.unitsStep f g o).unit u = f u (s.unit u) := by
  cases u <;> rfl

/-- An operation that takes each unit in its order, touching no other unit and not the ring, is one change of the state. -/
theorem four_units {step : UnitId → State → State} {f : UnitId → TUnit → TUnit} {g : UnitId → TUnit → Arbiter → Arbiter}
    {o : UnitId → TUnit → List FieldOrder} {s : State}
    (h : ∀ u t, t.unit u = s.unit u → t.queue = s.queue →
      step u t = t.unitStep u (f u (t.unit u)) (g u (t.unit u) t.arb) (o u (t.unit u))) :
    step .ro (step .ri (step .li (step .lo s))) = s.unitsStep f g o := by
  rw [h .lo, h .li, h .ri, h .ro]
  · simp [State.unitStep, State.unitsStep, State.unit, UnitId.all, Quad.set, Quad.get]
  all_goals rfl

/-! ## The retreat order (R135, R158) -/

/-- The marks every retreat order makes on a unit (R135). -/
def TUnit.marked (inWork : Bool) (x : TUnit) : TUnit :=
  { x with retreat := true, workOrdered := false, frozen := x.frozen || inWork }

theorem TUnit.Shaped.marked {x : TUnit} (h : x.Shaped) (inWork : Bool) : (x.marked inWork).Shaped := h

theorem markRetreat_step (u : UnitId) (s : State) :
    markRetreat u s = s.unitStep u ((s.unit u).marked s.entryInWork) s.arb [] := changeUnit_step ..

theorem startOpening_step {u : UnitId} {s : State} (h : (s.unit u).orderNo ≤ 255) :
    startOpening u s = s.unitStep u (s.unit u).sentOpening s.arb [.unit u .opens (numberAfter (s.unit u).orderNo)] := by
  rw [startOpening, changeUnit_step, orderUnit_step (by simpa using h)]
  simp [TUnit.ordered, TUnit.sentOpening, openTime]

/-- A marked unit that was in motion on its way leaves its motion. -/
theorem leaveMarked_step {u : UnitId} {s : State} (h : (s.unit u).Shaped) :
    leaveMotion u (markRetreat u s) = s.unitStep u { ((s.unit u).marked s.entryInWork).ended with waiting := false }
      (if (s.unit u).waiting then s.arb.withdraw (.unit u) else s.arb.release (.unit u)) ((s.unit u).cancels u) := by
  rw [markRetreat_step, leaveMotion_step (by simpa using h.marked _)]
  simp [TUnit.marked, TUnit.cancels]

theorem retreatUnit_step {p : Bool} {u : UnitId} {s : State} (h : (s.unit u).Shaped) :
    retreatUnit p u s = s.unitStep u ((s.unit u).retreated p s.entryInWork) ((s.unit u).retreatArb p u s.arb)
      ((s.unit u).retreatOrders p u) := by
  have hno : ((s.unit u).marked s.entryInWork).orderNo ≤ 255 := h.2.1
  have sent_up (hr : (s.unit u).state.resting = true) : enterMotion u .retreating (markRetreat u s) =
      s.unitStep u ((s.unit u).marked s.entryInWork).sentUp (s.arb.request (.unit u)) [] := by
    obtain ⟨hw, ho, ht⟩ := h.rests hr
    simp [markRetreat_step, enterMotion_step, TUnit.asks, TUnit.sentUp, TUnit.marked, ho, ht]
  have opening : startOpening u (markRetreat u s) =
      s.unitStep u ((s.unit u).marked s.entryInWork).sentOpening s.arb [.unit u .opens (numberAfter (s.unit u).orderNo)] := by
    rw [markRetreat_step, startOpening_step (by simpa using hno)]
    simp [TUnit.marked]
  have leaves : enterMotion u .retreating (leaveMotion u (markRetreat u s)) =
      s.unitStep u ((s.unit u).marked s.entryInWork).sentUp
        ((if (s.unit u).waiting then s.arb.withdraw (.unit u) else s.arb.release (.unit u)).request (.unit u))
        ((s.unit u).cancels u) := by
    rw [leaveMarked_step h, enterMotion_step]
    simp [TUnit.asks, TUnit.sentUp, TUnit.ended]
  unfold retreatUnit TUnit.retreated TUnit.retreatArb TUnit.retreatOrders
  dsimp only
  cases hst : (s.unit u).state
  case parked => simp
  case set =>
    obtain ⟨hw, ho, ht⟩ := h.rests (by rw [hst]; rfl)
    simp [parkUnit, markRetreat_step, changeUnit_step, TUnit.marked, hw, ho, ht]
  case shifting =>
    cases ho : (s.unit u).order <;>
      simp [parkUnit, leaveMarked_step h, changeUnit_step, TUnit.marked, TUnit.ended, TUnit.cancels, ho]
  case lowering | liftingOut | raising =>
    cases ho : (s.unit u).order <;> simp [leaves, TUnit.marked, TUnit.sentUp, TUnit.cancels, ho]
  case inserted => simp [sent_up (by rw [hst]; rfl), TUnit.marked, TUnit.sentUp]
  case squeezing => simp [opening, TUnit.marked, TUnit.sentOpening]
  case opening | retreating | held => simp [markRetreat_step, TUnit.marked, hst]
  case unhomed =>
    cases p
    · simp
    · simp [sent_up (by rw [hst]; rfl), TUnit.marked, TUnit.sentUp]
  case stuck =>
    cases p
    · simp
    · cases hc : (s.unit u).tinesClosed
      · simp [sent_up (by rw [hst]; rfl), TUnit.marked, TUnit.sentUp, hc]
      · simp [opening, TUnit.marked, TUnit.sentOpening, hc]

/-- The retreat order as the four units take it, in one change of the state (R38, R135). -/
theorem retreatUnits_eq {p : Bool} {s : State} (h : ∀ u, (s.unit u).Shaped) :
    retreatUnits p s = s.unitsStep (fun _ x => x.retreated p s.entryInWork) (fun u x a => x.retreatArb p u a)
      (fun u x => x.retreatOrders p u) := by
  refine four_units fun u t hu hq => ?_
  have hw : t.entryInWork = s.entryInWork := by rw [State.entryInWork, hq]; rfl
  rw [retreatUnit_step (hu ▸ h u), hw]

/-! ### The LLU -/

/-- An LLU that waits has neither order nor timer (R143). -/
theorem Llu.Shaped.waits {x : Llu} (h : x.Shaped) (hw : x.waiting = true) : x.order = none ∧ x.timer = none := by
  obtain ⟨htimer, -, hmatch, -⟩ := h
  cases ho : x.order with
  | none => simpa [ho] using htimer
  | some o => simp [hw, ho] at hmatch

/-- Outside CLAMPING, LIFTING and RELEASING the LLU waits for nothing and has neither order nor timer (R143). -/
theorem Llu.Shaped.rests {x : Llu} (h : x.Shaped) (hr : x.state ≠ .clamping ∧ x.state ≠ .lifting ∧ x.state ≠ .releasing) :
    x.waiting = false ∧ x.order = none ∧ x.timer = none := by
  obtain ⟨hc, hl, hrel⟩ := hr
  obtain ⟨htimer, -, hmatch, -⟩ := h
  cases hw : x.waiting <;> cases ho : x.order
  case false.none => simpa [ho] using htimer
  case false.some o =>
    obtain ⟨o, n⟩ := o
    rw [hw, ho] at hmatch
    obtain ⟨hf, -⟩ := hmatch
    revert hc hl hrel hf
    cases o <;> cases x.state <;> simp [LluOrder.fits]
  case true.none =>
    rw [hw, ho] at hmatch
    exact absurd hmatch (by simp [hc, hrel])
  case true.some => simp [hw, ho] at hmatch

/-- The CANCEL of the LLU's outstanding order, if there is one (R145). -/
def Llu.cancels (x : Llu) : List FieldOrder :=
  match x.order with
  | some (_, n) => [.lluCancel n]
  | none => []

/-- The LLU becomes `x`, the arbiter `a`, and the Field Side receives `orders`. -/
def State.lluStep (s : State) (x : Llu) (a : Arbiter) (orders : List FieldOrder) : State :=
  { s with llu := x, arb := a, field := { s.field with sent := s.field.sent ++ orders } }

@[simp] theorem lluStep_reads (s : State) (x : Llu) (a : Arbiter) (orders : List FieldOrder) :
    (s.lluStep x a orders).llu = x ∧ (s.lluStep x a orders).arb = a := ⟨rfl, rfl⟩

@[simp] theorem lluStep_lluStep (s : State) (x y : Llu) (a b : Arbiter) (orders more : List FieldOrder) :
    (s.lluStep x a orders).lluStep y b more = s.lluStep y b (orders ++ more) := by
  simp [State.lluStep]

@[simp] theorem lluStep_self (s : State) : s.lluStep s.llu s.arb [] = s := by simp [State.lluStep]

theorem changeLlu_step (f : Llu → Llu) (s : State) : changeLlu f s = s.lluStep (f s.llu) s.arb [] := by
  simp [changeLlu, State.setLlu, State.lluStep]

theorem cancelLlu_step (s : State) : cancelLlu s = s.lluStep s.llu.ended s.arb s.llu.cancels := by
  unfold cancelLlu Llu.cancels
  cases s.llu.order <;> simp [changeLlu_step, send, State.setField, State.lluStep, Llu.ended]

theorem releaseLluGrant_step (s : State) : releaseLluGrant s = s.lluStep s.llu (s.arb.release .llu) [] := by
  simp [releaseLluGrant, arbiter, State.setArb, State.lluStep]

/-- The LLU gives its motion up: it waits for nothing and has no order, with its request or its grant returned (R151, R158). -/
theorem leaveLluMotion_step {s : State} (h : s.llu.waiting = true → s.llu.order = none ∧ s.llu.timer = none) :
    leaveLluMotion s = s.lluStep { s.llu.ended with waiting := false }
      (if s.llu.waiting then s.arb.withdraw .llu else s.arb.release .llu) s.llu.cancels := by
  unfold leaveLluMotion
  split
  · next hw =>
    obtain ⟨ho, ht⟩ := h hw
    simp [changeLlu_step, arbiter, State.setArb, State.lluStep, Llu.ended, Llu.cancels, ho, ht]
  · next hw =>
    rw [Bool.not_eq_true] at hw
    simp [cancelLlu_step, releaseLluGrant_step, Llu.ended, hw]

theorem lluRetreatOrder_step {p : Bool} {s : State} (h : s.llu.Shaped) :
    lluRetreatOrder p s = s.lluStep (s.llu.retreated p) (s.llu.retreatArb s.arb) s.llu.retreatOrders := by
  have leaves : leaveLluMotion (s.lluStep { s.llu with retreat := true, joinHold := none, settle := none } s.arb []) =
      s.lluStep { s.llu.ended with waiting := false, retreat := true, joinHold := none, settle := none }
        (if s.llu.waiting then s.arb.withdraw .llu else s.arb.release .llu) s.llu.cancels := by
    rw [leaveLluMotion_step (by simpa using h.waits)]
    simp [Llu.ended, Llu.cancels]
  unfold lluRetreatOrder Llu.retreated Llu.retreatArb Llu.retreatOrders openUnderRetreat
  simp only [changeLlu_step, leaves]
  cases hst : s.llu.state
  case unhomed | stuck => cases p <;> simp
  case isOpen | settling =>
    obtain ⟨-, ho, -⟩ := h.rests (by simp [hst])
    simp [Llu.ended, Llu.cancels, ho]
  case clamping =>
    cases hc : s.llu.clampsClosed <;> cases ho : s.llu.order <;> simp [Llu.ended, Llu.cancels, ho, hst, hc]
  case lifting => cases ho : s.llu.order <;> simp [Llu.ended, Llu.cancels, ho, hst]
  case atDemand | holding =>
    obtain ⟨-, ho, -⟩ := h.rests (by simp [hst])
    simp [Llu.ended, Llu.cancels, ho, hst]
  case releasing | held => simp

/-! ### The common retreat (R38) -/

/-- The common retreat before its follow-up, as one change of the state. -/
def State.retreating (s : State) (p : Bool) : State :=
  { s with
    travel := s.idled.travel
    units := s.units.map fun x => x.retreated p s.entryInWork
    llu := s.llu.retreated p, arb := s.retreatArb p
    field := { s.field with
      sent := s.field.sent ++ s.stopOrders ++ (UnitId.all.flatMap fun u => (s.unit u).retreatOrders p u)
        ++ s.llu.retreatOrders } }

theorem commonRetreat_eq {p : Bool} {s : State} (hu : ∀ u, (s.unit u).Shaped) (hl : s.llu.Shaped) :
    commonRetreat p s = followRetreat (s.retreating p) := by
  have hunits := retreatUnits_eq (p := p) (s := arbiter (fun a => { a with retreatMode := true }) s.idled) hu
  have hllu := lluRetreatOrder_step (p := p) (s := (arbiter (fun a => { a with retreatMode := true }) s.idled).unitsStep
    (fun _ x => x.retreated p s.entryInWork) (fun u x a => x.retreatArb p u a) (fun u x => x.retreatOrders p u)) hl
  simp only [commonRetreat, positionerIdle_eq]
  congr 1
  rw [hunits]
  exact hllu

/-- The common retreat, in the terms of R38. -/
theorem followed_retreated (s : State) (p : Bool) : Retreated p s.entryInWork s (followRetreat (s.retreating p)) := by
  have hk := followRetreat_keeps (s.retreating p)
  refine ⟨by simp [State.retreating], fun u => ?_, followRetreat_followed _, by simp [State.retreating]⟩
  have hunits : (followRetreat (s.retreating p)).units = s.units.map fun x => x.retreated p s.entryInWork := by simp [State.retreating]
  rw [State.unit, hunits, Quad.get_map]
  rfl

end Sys2Proof.Machine

section
open Sys2Proof Sys2Proof.Machine

/-- Settles O28: PARK ALL is the common retreat and its reply. -/
theorem parkAllOrdersTheRetreat : Obligations.ParkAllOrdersTheRetreat := by
  unfold Obligations.ParkAllOrdersTheRetreat
  intro tag s h ht hs hw
  obtain ⟨hunits, hllu, -⟩ := hw
  obtain ⟨u, hu⟩ : ∃ u, u = commonRetreat true (s.setLink s.link.taken) := ⟨_, rfl⟩
  have ho : parkAllOwner (s.setLink s.link.taken) = (u, .accepted) := by
    rw [hu]
    exact if_pos hs
  have hret : Retreated true s.entryInWork (s.setLink s.link.taken) u := by
    rw [hu, commonRetreat_eq (s := s.setLink s.link.taken) hunits hllu]
    exact followed_retreated _ _
  have hkeeps := commonRetreat_keeps true (s.setLink s.link.taken)
  rw [← hu] at hkeeps
  obtain ⟨hlink, hqueue, hjob, hparams, hengine, htable, hmeas, htrail, htest, hpending, -⟩ := hkeeps
  exact ⟨_, request_taken rfl h ht ho rfl, hret, ⟨hqueue, hjob, hparams, hengine, htable, hmeas, htrail, htest, hpending⟩,
    answer_answered hlink⟩

end

namespace Sys2Proof.Machine

/-! ## ABORT JOB (R41) -/

/-- The job aborted, the retreat not yet ordered: `l` holds the slots with the entry at work finished. -/
def State.aborted (s : State) (l : List Slot) (link : Link) : State :=
  { s with
    queue := { s.queue with slots := abortReady s.queue.oldest l }
    job := { s.job with state := .idle, phase := none, pausePending := false, endReason := .aborted }
    engine := .noRecord
    link := link.place (.jobState ⟨.idle, none, .aborted, s.job.halt, false, none⟩) }

/-- `l` is the ring's slots with the entry at work, if there was one, finished. -/
def WorkingFinished (q : WorkQueue) (l : List Slot) : Prop :=
  l.length = q.slots.length ∧ (∀ z ∈ l, z.state ≠ .active ∧ z.state ≠ .faulted) ∧
  ∀ (i : Nat) (y : Slot), q.slots[i]? = some y → y.state ≠ .active → y.state ≠ .faulted → l[i]? = some y

/-- An abort makes READY slots ABORTED with an empty result, and leaves the others (R18, R41). -/
theorem abortReady_of_ne {o i : Nat} {l : List Slot} {y : Slot} (hy : l[i]? = some y) (hr : y.state ≠ .ready) :
    (abortReady o l)[i]? = some y := by
  rw [abortReady_getElem?, hy, Option.map_some, if_neg hr]

theorem abortReady_of_ready {o i : Nat} {l : List Slot} {y : Slot} (hy : l[i]? = some y) (hr : y.state = .ready) :
    (abortReady o l)[i]? = some { y with state := .aborted, result := some (abortedReady ((o + i) % 64) y) } := by
  rw [abortReady_getElem?, hy, Option.map_some, if_pos hr]
  rfl

theorem abortReady_noneWorking {q : WorkQueue} {l : List Slot} (h : WorkingFinished q l) :
    NoneWorking { q with slots := abortReady q.oldest l } := by
  obtain ⟨-, hnone, -⟩ := h
  intro z hz
  obtain ⟨i, hi⟩ := List.mem_iff_getElem?.1 hz
  obtain ⟨y, hy, rfl⟩ := Option.map_eq_some_iff.1 (abortReady_getElem? .. ▸ hi)
  have := hnone y (List.mem_of_getElem? hy)
  split
  · simp
  · exact this

/-- The abort is `JobAborted` whatever the line does behind it. -/
theorem aborted_jobAborted {s t u : State} {l : List Slot} {link : Link} (hl : WorkingFinished s.queue l)
    (hunits : ∀ v, (s.unit v).Shaped) (hllu : s.llu.Shaped) (hu : u = commonRetreat false (s.aborted l link))
    (ht : t = { u with link := t.link }) : JobAborted s t := by
  have hnw : NoneWorking (s.aborted l link).queue := abortReady_noneWorking hl
  have hwork : (s.aborted l link).entryInWork = false := by
    rw [State.entryInWork, WorkQueue.activePos_none.2 hnw]
    rfl
  have hret : Retreated false false (s.aborted l link) u := by
    rw [hu, commonRetreat_eq (s := s.aborted l link) hunits hllu, ← hwork]
    exact followed_retreated _ _
  have hkeeps := commonRetreat_keeps false (s.aborted l link)
  rw [← hu] at hkeeps
  obtain ⟨-, hqueue, hjob, hparams, hengine, htable, hmeas, htrail, htest, hpending, -⟩ := hkeeps
  obtain ⟨hlen, hnone, hothers⟩ := hl
  have htq : t.queue = { s.queue with slots := abortReady s.queue.oldest l } := by
    rw [ht]
    exact hqueue
  rw [JobAborted, htq]
  refine ⟨rfl, (abortReady_length ..).trans hlen, fun i y hy => ⟨fun hr ha hf => ?_, fun hr => ?_⟩, ?_, ?_, ?_, ?_, ?_, ?_, ?_, ?_, ?_⟩
  · exact abortReady_of_ne (hothers i y hy ha hf) hr
  · exact ⟨_, abortReady_of_ready (hothers i y hy (by simp [hr]) (by simp [hr])) hr, rfl, rfl, rfl, ⟨rfl, rfl⟩, rfl, rfl, rfl, rfl, rfl,
      fun u => by simp [abortedReady, resultOf, UnitResult.empty]⟩
  all_goals rw [ht]
  exacts [hjob, hengine, hret, hparams, htable, hmeas, htrail, htest, hpending]

/-- ABORT JOB from the slots with the entry at work finished. -/
theorem abortJob_eq {s : State} {l : List Slot} {link : Link} (hl : WorkingFinished s.queue l)
    (hm : finishActive .aborted none false s.abortFault s = { s with queue := { s.queue with slots := l }, link := link }) :
    abortJob s = commonRetreat false (s.aborted l link) := by
  have hnone := (abortReady_noneWorking hl).activeIndex
  simp only [abortJob, hm, reportJob, place, State.jobStatus, State.setQueue, State.setJob, State.setEngine, State.setLink, hnone]
  rfl

theorem workingFinished_of_none {q : WorkQueue} (h : NoneWorking q) : WorkingFinished q q.slots :=
  ⟨rfl, h, fun _ _ hy _ _ => hy⟩

theorem workingFinished_set {q : WorkQueue} {k : Nat} {x y : Slot} (hk : OnlyWorking q k x) (hy : y.state ≠ .active ∧ y.state ≠ .faulted) :
    WorkingFinished q (q.slots.set k y) := by
  refine ⟨List.length_set, hk.set_noneWorking hy, fun i z hz ha hf => ?_⟩
  obtain ⟨hx, hw, -⟩ := hk
  have hne : k ≠ i := by
    rintro rfl
    obtain rfl := Option.some_inj.1 (hx.symm.trans hz)
    exact hw.elim ha hf
  rw [List.getElem?_set_ne hne, hz]

/-- Without an entry at work nothing finishes. -/
theorem finishActive_none {s : State} (h : NoneWorking s.queue) (final : SlotState) (residual : Option (Int × Int)) (missing : Bool)
    (fault : Option FaultCode) : finishActive final residual missing fault s = s := by
  simp [finishActive, WorkQueue.activePos_none.2 h]

/-- An entry aborted from FAULTED keeps the halt's first fault, and one from ACTIVE has none (R18). -/
theorem abortFault_eq {s : State} {k : Nat} {x : Slot} (h : OnlyWorking s.queue k x) :
    s.abortFault = if x.state = .faulted then s.job.halt.map (·.first) else none := by
  unfold State.abortFault
  split
  · next hf => simp [State.faultedSlot, h.active.1, h.active.2] at hf; simp [hf]
  · next hf => simp [State.faultedSlot, h.active.1, h.active.2] at hf; simp [hf]

end Sys2Proof.Machine

section
open Sys2Proof Sys2Proof.Machine

/-- Settles O27: the entry at work finishes, the READY ones follow, and the common retreat is ordered. -/
theorem abortEndsTheJob : Obligations.AbortEndsTheJob := by
  unfold Obligations.AbortEndsTheJob
  intro tag s h ht hs ⟨hunits, hllu, _⟩
  have ho : abortOwner (s.setLink s.link.taken) = (abortJob (s.setLink s.link.taken), .accepted) := if_neg hs
  refine ⟨fun k x hk => ?_, fun hn => ?_⟩
  · obtain ⟨r, hr⟩ : ∃ r, r = resultOf (s.queue.index k) x (s.reachedBy x) .aborted none false s.abortFault := ⟨_, rfl⟩
    have hfin : r.final = .aborted := hr ▸ rfl
    have hl : WorkingFinished (s.setLink s.link.taken).queue (s.queue.slots.set k { x with state := r.final, result := some r }) :=
      workingFinished_set hk (by simp [hfin])
    rw [abortJob_eq hl (finishActive_eq (s := s.setLink s.link.taken) hk .aborted none false _ hr)] at ho
    have hkeeps := commonRetreat_keeps false ((s.setLink s.link.taken).aborted
      (s.queue.slots.set k { x with state := r.final, result := some r }) (s.link.taken.place (.entryFinished r.slot r.number r.final)))
    obtain ⟨hlink, hqueue, -⟩ := hkeeps
    refine ⟨_, r, request_taken rfl h ht ho rfl, aborted_jobAborted (s := s.setLink s.link.taken) hl hunits hllu rfl rfl, ?_, hr ▸ rfl,
      hr ▸ rfl, hfin, hr ▸ ⟨rfl, rfl⟩, hr ▸ rfl, hr ▸ rfl, hr ▸ rfl, ?_, fun ha => ?_, fun kept hf hkept => ?_, ?_⟩
    · have hset : (s.queue.slots.set k { x with state := r.final, result := some r })[k]? =
          some { x with state := .aborted, result := some r } := by
        rw [List.getElem?_set_self (List.getElem?_eq_some_iff.1 hk.1).1, hfin]
      exact (congrArg (·.slots[k]?) hqueue).trans (abortReady_of_ne hset (by simp))
    · rw [hr]
      exact abortFault_eq hk
    · have hreached : s.reachedBy x = ⟨s.unitResults, s.llu.achievement⟩ := by simp [State.reachedBy, ha]
      obtain ⟨hnone, hsome⟩ := s.llu.achievement_eq x.entry
      rw [hr, hreached]
      exact ⟨fun u => by simp [resultOf, State.unitResults, State.unit], hnone, hsome⟩
    · have hreached : s.reachedBy x = kept := by simp [State.reachedBy, hf, hkept]
      rw [hr, hreached]
      exact ⟨rfl, rfl⟩
    · subst hr
      exact answer_answered hlink
  · have hl : WorkingFinished (s.setLink s.link.taken).queue s.queue.slots := workingFinished_of_none hn
    rw [abortJob_eq hl (finishActive_none (s := s.setLink s.link.taken) hn ..)] at ho
    exact ⟨_, request_taken rfl h ht ho rfl, aborted_jobAborted (s := s.setLink s.link.taken) hl hunits hllu rfl rfl,
      answer_answered (commonRetreat_keeps ..).1⟩

end

namespace Sys2Proof.Machine

/-! ## The in-position event (R30, R47, R112) -/

/-- A unit after the work order: a SET one lowers, a SHIFTING one lowers when it is SET (R125). -/
def TUnit.toldToWork (x : TUnit) : TUnit :=
  if x.result.used = true ∧ x.workOrdered = false ∧ x.state = .set then
    { x with workOrdered := true, state := .lowering, waiting := true }
  else if x.result.used = true ∧ x.state = .shifting then { x with workOrdered := true }
  else x

/-- The work order makes the unit ask for its lowering (R125). -/
def TUnit.asksToLower (x : TUnit) : Bool := x.result.used && !x.workOrdered && x.state == .set

theorem workUnit_step (u : UnitId) (s : State) :
    workUnit u s = s.unitStep u (s.unit u).toldToWork
      (if (s.unit u).asksToLower then s.arb.request (.unit u) else s.arb) [] := by
  unfold workUnit TUnit.toldToWork TUnit.asksToLower
  dsimp only
  cases hused : (s.unit u).result.used
  · simp
  · cases hord : (s.unit u).workOrdered
    · cases hst : (s.unit u).state <;> simp [enterMotion_step, changeUnit_step, TUnit.asks, hst]
    · have hsame : { s.unit u with workOrdered := true } = s.unit u := by rw [← hord]
      simp [hsame]

/-- The work order as the four units take it, in one change of the state (R30, R125). -/
theorem workUnits_eq (s : State) : workUnits s = { s with
    units := s.units.map TUnit.toldToWork
    arb := (UnitId.all.filter fun u => (s.unit u).asksToLower).foldl (fun a u => a.request (.unit u)) s.arb } := by
  have h := four_units (step := workUnit) (f := fun _ x => x.toldToWork) (s := s)
    (g := fun u x a => if x.asksToLower then a.request (.unit u) else a) (o := fun _ _ => [])
    fun u t _ _ => workUnit_step u t
  rw [workUnits, h, List.foldl_filter]
  simp [State.unitsStep, Quad.map, UnitId.all]

/-- An OPEN LLU takes the demands and asks for its clamp (R146). -/
theorem lluWork_eq {d : Demands} {s : State} (h : s.llu.state = .isOpen) : lluWork d s = { s with
    llu := { s.llu with
      state := .clamping, waiting := true, demands := some d, baseline := none, achieved := none
      reached := false, liftShort := false, lineForce := false }
    arb := s.arb.request .llu } := by
  simp [lluWork, h, changeLlu, arbiter, State.setLlu, State.setArb]

/-- The computation has its inputs: no channel it reads is LOST, and the design is at hand (R47 to R50). -/
theorem correctionInputs_ok {p : Params} {cs : Channels ChannelRec} {table : DesignTable} {trail : Trail} {e : Entry} {c k cd : Int}
    (hch : ∀ ch ∈ [Channel.line, levelChannel p.grade, .cant], (cs.get ch).state ≠ .lost)
    (hd : (p.mode = .localMode ∧ k = e.localCurv ∧ cd = e.localCant) ∨ (p.mode = .design ∧ table.lookup c = some (k, cd))) :
    correctionInputs p cs table trail e c = .ok
      { m := cs.line.current, h := (cs.get (levelChannel p.grade)).current, cm := cs.cant.current
        held := cs.line.state == .held || (cs.get (levelChannel p.grade)).state == .held || cs.cant.state == .held
        k := k, cd := cd
        eA := trail.question (·.line) (c - p.aL)
        zA := trail.question (·.level) (c - p.aV) } := by
  have hline : cs.line.state ≠ .lost := hch .line (by simp)
  have hlevel : (cs.get (levelChannel p.grade)).state ≠ .lost := hch _ (by simp)
  have hcant : cs.cant.state ≠ .lost := hch .cant (by simp)
  have hlost : (cs.line.isLost || (cs.get (levelChannel p.grade)).isLost || cs.cant.isLost) = false := by
    simp [ChannelRec.isLost, hline, hlevel, hcant]
  have hdesign : (if p.mode = .localMode then some (e.localCurv, e.localCant) else table.lookup c) = some (k, cd) := by
    rcases hd with ⟨hm, rfl, rfl⟩ | ⟨hm, hl⟩
    · rw [if_pos hm]
    · rw [if_neg (by simp [hm]), hl]
  simp only [correctionInputs, hlost, Bool.false_eq_true, if_false, hdesign]

/-- The computation has succeeded with the record `r`: it is kept and copied to the slot, the LLU and the units are told to work, and
the phase is WORKING (R30). -/
def State.workBegun (s : State) (k : Nat) (x : Slot) (r : Correction) : State :=
  { s with
    queue := { s.queue with slots := s.queue.slots.set k { x with copy := some r } }
    job := { s.job with phase := some .working }
    engine := .working r
    llu := { s.llu with
      state := .clamping, waiting := true, demands := some r.demands, baseline := none, achieved := none
      reached := false, liftShort := false, lineForce := false }
    units := s.units.map TUnit.toldToWork
    arb := (UnitId.all.filter fun u => (s.unit u).asksToLower).foldl (fun a u => a.request (.unit u)) (s.arb.request .llu) }

theorem inPosition_eq {s : State} {k : Nat} {x : Slot} {i : Inputs} {r : Correction} (hs : s.job.state = .running)
    (hp : s.job.phase = some .positioning) (hk : OnlyWorking s.queue k x) (he : s.engine = .noRecord) (hl : s.llu.state = .isOpen)
    (hi : correctionInputs s.params s.meas.channels s.table s.trail x.entry s.travel.p = .ok i)
    (hr : r = correctionOf s.params x.entry x.chainPos s.travel.p i) : inPosition s = s.workBegun k x r := by
  have hcond : ¬ (s.job.state ≠ .running ∨ s.job.phase ≠ some .positioning) := by simp [hs, hp]
  rw [inPosition, if_neg hcond]
  simp only [hk.active.1, hk.active.2, hi, ← hr]
  rw [lluWork_eq (by simpa using hl), workUnits_eq]
  simp only [he, Engine.store, WorkQueue.modify, modify_eq_set hk.1]
  rfl

/-- Asking for grants keeps the retreat mode. -/
theorem foldl_request_retreatMode (l : List UnitId) (a : Arbiter) :
    (l.foldl (fun a u => a.request (.unit u)) a).retreatMode = a.retreatMode := by
  induction l generalizing a with
  | nil => rfl
  | cons u l ih => rw [List.foldl_cons, ih, (Arbiter.request_keeps (.unit u) a).1]

theorem NoRetreat.workBegun {s : State} (h : NoRetreat s) (k : Nat) (x : Slot) (r : Correction) : NoRetreat (s.workBegun k x r) := by
  obtain ⟨hm, hl⟩ := h
  refine ⟨?_, hl⟩
  rw [State.workBegun, foldl_request_retreatMode, (Arbiter.request_keeps .llu s.arb).1, hm]

/-- IN_POSITION wants the drive at STOP (R104). -/
theorem driveDue_inPosition {s : State} (h : s.travel.state = .inPosition) : s.driveDue = .stop := by
  rw [State.driveDue, h]
  exact ite_self _

end Sys2Proof.Machine

section
open Sys2Proof Sys2Proof.Machine

/-- Settles O33: the rest is within the tolerance, the computation has its inputs, and the work begins in one change of the state. -/
theorem inPositionOrdersTheWork : Obligations.InPositionOrdersTheWork := by
  unfold Obligations.InPositionOrdersTheWork
  intro s k x goal curv cant hst hset hg htol hs hp hk he hl hnr hch hd
  obtain ⟨w, hw⟩ : ∃ w : State, w = { s with travel := { s.travel with state := .inPosition, settle := none } } := ⟨_, rfl⟩
  obtain ⟨i, hi⟩ : ∃ i, correctionInputs s.params s.meas.channels s.table s.trail x.entry s.travel.p = .ok i :=
    ⟨_, correctionInputs_ok hch hd⟩
  obtain ⟨r, hr⟩ : ∃ r, r = correctionOf s.params x.entry x.chainPos s.travel.p i := ⟨_, rfl⟩
  have hin : inPosition w = w.workBegun k x r := by
    subst hw
    exact inPosition_eq hs hp hk he hl hi hr
  have hjudge : judgeRest s = w.workBegun k x r := by
    have hout : s.travel.outside s.params = false := by
      simpa [Travel.outside, Travel.goal_eq hg] using htol
    rw [judgeRest, hout, ← hin, hw]
    rfl
  have hexec : exec .positionSettleExpiry s = .next (conclude (w.workBegun k x r)) := by
    have hnw : NoRetreat w := hw ▸ hnr
    show Host.Outcome.next (if s.travel.state = .stopping ∧ s.travel.settle.isSome then _ else s) = _
    rw [if_pos ⟨hst, hset⟩, hjudge, followRetreat_eq (hnw.workBegun k x r)]
  have hdue : (w.workBegun k x r).driveDue = .stop := driveDue_inPosition (by rw [hw]; rfl)
  rw [conclude, issueDrive_eq, hdue] at hexec
  subst hw
  have hinputs := Except.ok.inj (hi.symm.trans (correctionInputs_ok hch hd))
  refine ⟨_, r, hexec, hinputs ▸ hr, rfl, rfl, rfl, rfl, rfl, fun u => ?_, rfl, rfl, rfl, rfl, rfl, rfl, rfl, rfl, rfl⟩
  exact Quad.get_map ..

end

namespace Sys2Proof.Machine

/-! ## The end of work after the last unit (R31, R29) -/

/-- Outside a retreat an event ends with the drive order and the line alone. -/
theorem unitEvent_ended {w : State} (h : NoRetreat w) : Ended w (unitEvent w) := by
  rw [unitEvent, followRetreat_eq h]
  obtain ⟨hdriven, hlink⟩ := conclude_issued w
  exact ⟨⟨conclude_eq w, hdriven⟩, hlink⟩

/-- The work of the entry `x`, ACTIVE at place `k` with the target `goal`, ends in `w`, outside a retreat. -/
structure WorkEnding (w : State) (k : Nat) (x : Slot) (goal : Int) : Prop where
  ended : w.workEnded = true
  only : OnlyWorking w.queue k x
  active : x.state = .active
  target : w.travel.target = some goal
  noRetreat : NoRetreat w

theorem NoRetreat.workReleased {w : State} (h : NoRetreat w) : NoRetreat w.workReleased :=
  ⟨(Arbiter.request_keeps .llu w.arb).1.trans h.1, h.2⟩

theorem NoRetreat.workHeld {w : State} (h : NoRetreat w) (k : Nat) (x : Slot) (r : Result) (goal : Int) :
    NoRetreat (w.workHeld k x r goal) := h

theorem NoRetreat.continued {w : State} (h : NoRetreat w) (k : Nat) (x : Slot) (c : Correction) : NoRetreat (w.continued k x c) :=
  ⟨(Arbiter.askShift_retreatMode w.arb x.entry.units).trans h.1, h.2⟩

/-- A finish that holds leaves no entry at work, and the READY ones as they were. -/
theorem WorkEnding.held_queue {w : State} {k : Nat} {x : Slot} {goal : Int} (h : WorkEnding w k x goal) {r : Result}
    (hr : r.final.finished = true) : NoneWorking (w.workHeld k x r goal).queue ∧
      ∀ j y, OldestReady w.queue j y → OldestReady (w.workHeld k x r goal).queue j y :=
  ⟨h.only.set_noneWorking (SlotState.finished_idle hr), fun _ _ hj =>
    hj.set h.only.1 (by rw [h.active]; decide) (SlotState.finished_ne_ready hr)⟩

/-- The rule of R31 without JOINED_NEXT. -/
theorem WorkEnding.releases {w : State} {k : Nat} {x : Slot} {goal : Int} (h : WorkEnding w k x goal) (fuel : Nat)
    (hj : x.entry.joinedNext = false) : endOfWork (fuel + 1) w = w.workReleased := by
  rw [endOfWork, if_pos h.ended, h.only.active.2]
  simp [hj, beginRelease_eq (gateOpen_of_workEnded h.ended)]

/-- The rule of R31 with JOINED_NEXT: the entry finishes and the job holds, as no READY entry waits. -/
theorem WorkEnding.holds {w : State} {k : Nat} {x : Slot} {goal : Int} (h : WorkEnding w k x goal) (fuel : Nat)
    (hj : x.entry.joinedNext = true) (he : x.entry.isEnd = false) {r : Result}
    (hr : r = resultOf (w.queue.index k) x (w.reachedBy x) w.workedFinal none false none)
    (hno : (w.workHeld k x r goal).queue.readyPos = none) : endOfWork (fuel + 1) w = w.workHeld k x r goal := by
  rw [endOfWork, if_pos h.ended, h.only.active.2]
  simp [hj, he, finishHeld_eq h.only (gateOpen_of_workEnded h.ended) h.target hr, hno]

/-- The rule of R31 with JOINED_NEXT: the entry finishes, and the oldest READY one is activated on the held track. -/
theorem WorkEnding.continues {w : State} {k : Nat} {x : Slot} {goal : Int} (h : WorkEnding w k x goal) (fuel : Nat)
    (hj : x.entry.joinedNext = true) (he : x.entry.isEnd = false) {r : Result}
    (hr : r = resultOf (w.queue.index k) x (w.reachedBy x) w.workedFinal none false none) {j : Nat} {y : Slot} {c : Correction}
    (hy : OldestReady (w.workHeld k x r goal).queue j y) (hc : w.engine = .working c) :
    endOfWork (fuel + 1) w = endOfWork fuel ((w.workHeld k x r goal).continued j y c) := by
  have hengine : (w.workHeld k x r goal).engine = .held c := by simp [State.workHeld, hc]
  rw [endOfWork, if_pos h.ended, h.only.active.2, ← chained_eq_continued hengine, ← activate_chained hy.1 rfl]
  simp [hj, he, finishHeld_eq h.only (gateOpen_of_workEnded h.ended) h.target hr, hy.readyPos]

/-- No work ends while used units shift on the held track. -/
theorem endOfWork_holding {w : State} (h : w.job.phase = some .holding) (fuel : Nat) : endOfWork fuel w = w := by
  cases fuel with
  | zero => rfl
  | succ n => rw [endOfWork, if_neg (by simp [State.workEnded, h])]

/-- A continuation without used units ends its own work (R29). -/
theorem WorkEnding.continued {w : State} {k : Nat} {x : Slot} {goal : Int} (h : WorkEnding w k x goal) {r : Result}
    (hr : r.final.finished = true) {j : Nat} {y : Slot} (c : Correction) (hj : OldestReady w.queue j y)
    (hu : ∀ u, (y.entry.units.get u).mask = 0) :
    WorkEnding ((w.workHeld k x r goal).continued j y c) j (y.tookOver c) (min (goal + y.entry.distance) 4000000) := by
  obtain ⟨hnone, hready⟩ := h.held_queue hr
  exact
    { ended := continued_workEnded (s := w.workHeld k x r goal) (State.workEnded_running (s := w) h.ended) rfl hu
      only := continued_onlyWorking hnone (hready j y hj).1
      active := rfl
      target := rfl
      noRetreat := (h.noRetreat.workHeld k x r goal).continued j y c }

/-- What the rule of R31 does, round by round, is what follows when the work of an entry ends. -/
theorem WorkEnding.workEnds {rounds fuel : Nat} (hf : rounds ≤ fuel) {w : State} {k : Nat} {x : Slot} {goal : Int}
    (h : WorkEnding w k x goal) : WorkEnds rounds w (unitEvent (endOfWork fuel w)) k x goal := by
  induction rounds generalizing fuel w k x goal with
  | zero => trivial
  | succ n ih =>
    obtain ⟨fuel, rfl⟩ : ∃ m, fuel = m + 1 := ⟨fuel - 1, by omega⟩
    refine ⟨fun hj => ?_, fun hj he => ?_⟩
    · rw [h.releases fuel hj]
      exact unitEvent_ended h.noRetreat.workReleased
    · obtain ⟨r, hr⟩ : ∃ r, r = resultOf (w.queue.index k) x (w.reachedBy x) w.workedFinal none false none := ⟨_, rfl⟩
      have hworked : WorkedResult w k x none false r := hr ▸ resultOf_worked h.active none false
      obtain ⟨-, hready⟩ := h.held_queue hworked.finished
      refine ⟨r, hworked, fun hno => ?_, fun j y c hoy hc => ?_⟩
      · rw [h.holds fuel hj he hr (WorkQueue.readyPos_none.2 (noReady_set hno (SlotState.finished_ne_ready hworked.finished)))]
        exact unitEvent_ended (h.noRetreat.workHeld k x r goal)
      · rw [h.continues fuel hj he hr (hready j y hoy) hc]
        refine ⟨fun hu => ?_, fun hu => ih (by omega) (h.continued hworked.finished c hoy hu)⟩
        have hall : y.entry.units.all (·.mask == 0) = false := by
          rw [Bool.eq_false_iff, ne_eq, noneUsed_iff]
          push Not
          exact hu
        rw [endOfWork_holding (by simp [State.continued, hall])]
        exact unitEvent_ended ((h.noRetreat.workHeld k x r goal).continued j y c)

/-- Park height ends the motion: the unit is PARKED without its retreat mark, and its grant goes back (R122, R132). -/
theorem parkUnit_step (u : UnitId) (s : State) : parkUnit u (endMotion u s) =
    s.unitStep u { (s.unit u).ended with state := .parked, retreat := false } (s.arb.release (.unit u)) [] := by
  simp [parkUnit, endMotion, endUnitOrder, changeUnit_step, releaseGrant_step, TUnit.ended]

end Sys2Proof.Machine

section
open Sys2Proof Sys2Proof.Machine

/-- Settles O49: the last unit's done is the end of work, and each round of R31 is one round of the statement. -/
theorem lastUnitEndsTheWork : Obligations.LastUnitEndsTheWork := by
  unfold Obligations.LastUnitEndsTheWork
  intro u n s k x goal _ hst ho hs hp hk hx hl hdone hnr hg
  obtain ⟨w, hw⟩ : ∃ w : State, w = { s with
      units := s.units.set u { (s.unit u).ended with state := .parked, retreat := false }
      job := { s.job with done := s.job.done.set u true }, arb := s.arb.release (.unit u) } := ⟨_, rfl⟩
  rw [← hw]
  have hgate : s.gateOpen = true := by
    rcases hl with h | h <;> simp [State.gateOpen, Llu.atDemandOrHolding, h]
  have hall : ((s.job.done.set u true).all fun d => d) = true := by
    rw [Sys2Proof.Quad.all_iff]
    intro v
    by_cases hv : v = u
    · rw [hv, Quad.get_set_self]
    · rw [Quad.get_set_of_ne _ _ hv, hdone v hv]
  have hworked : WorkEnding w k x goal := by
    subst hw
    exact
      { ended := by simp only [State.workEnded, hs, hp, hall]; exact hgate
        only := hk
        active := hx
        target := hg
        noRetreat := ⟨(Arbiter.release_keeps (.unit u) s.arb).1.trans hnr.1, hnr.2⟩ }
  have hpark : parkDone u s = testEndOfWork w := by
    rw [parkDone, parkUnit_step, if_pos hst, hw]
    simp [unitDone, State.unitStep, hs, State.setJob]
  have hexec : exec (.atPark u n) s = .next (unitEvent (testEndOfWork w)) := by
    rw [← hpark]
    exact congrArg Host.Outcome.next (if_pos ⟨by rw [hst]; rfl, by simp [TUnit.awaits, ho]⟩)
  exact ⟨_, hexec, hworked.workEnds (by decide)⟩

end

namespace Sys2Proof.Machine

/-! ## What a fault code does (R25, R26, R37) -/

/-! ### The follow-up of a retreat is made once -/

theorem endRetreat_endRetreat (s : State) : endRetreat (endRetreat s) = endRetreat s := by
  unfold endRetreat
  by_cases h : (s.arb.retreatMode && (s.retreatComplete || s.retreatStalled)) = true
  · rw [if_pos h]
    rfl
  · rw [if_neg h, if_neg h]

/-- A second test of the LLU's release finds nothing to do: an LLU that released is RELEASING. -/
theorem lluRetreatRelease_again (s : State) : lluRetreatRelease (endRetreat (lluRetreatRelease s)) = endRetreat (lluRetreatRelease s) := by
  have hnone : ∀ t : State, (t.llu.retreat && t.llu.state.waitsClamped && t.allParked && !t.field.stopLine) = false →
      lluRetreatRelease (endRetreat t) = endRetreat t := by
    intro t ht
    have hend : ((endRetreat t).llu.retreat && (endRetreat t).llu.state.waitsClamped && (endRetreat t).allParked
        && !(endRetreat t).field.stopLine) = false := by
      rw [← ht]
      unfold endRetreat
      split <;> rfl
    exact if_neg (Bool.eq_false_iff.1 hend)
  by_cases h : (s.llu.retreat && s.llu.state.waitsClamped && s.allParked && !s.field.stopLine) = true
  · have hrel : lluRetreatRelease s = startRelease s := if_pos h
    rw [hrel]
    refine hnone _ ?_
    have hst : (startRelease s).llu.state = .releasing := rfl
    simp [hst, LluState.waitsClamped]
  · have hrel : lluRetreatRelease s = s := if_neg h
    rw [hrel]
    exact hnone s (Bool.not_eq_true _ ▸ h)

theorem followRetreat_followRetreat (s : State) : followRetreat (followRetreat s) = followRetreat s := by
  rw [followRetreat, followRetreat, lluRetreatRelease_again, endRetreat_endRetreat]

/-! ### The slot a halt makes FAULTED (R37) -/

theorem map_eq_set {α : Type} {l : List α} {k : Nat} {x : α} {f : α → α} (hx : l[k]? = some x)
    (h : ∀ j y, j ≠ k → l[j]? = some y → f y = y) : l.map f = l.set k (f x) := by
  refine List.ext_getElem? fun i => ?_
  rw [List.getElem?_map]
  by_cases hi : i = k
  · subst hi
    rw [hx, List.getElem?_set_self (List.getElem?_eq_some_iff.1 hx).1]
    rfl
  · rw [List.getElem?_set_ne (Ne.symm hi)]
    cases hy : l[i]? with
    | none => rfl
    | some y => rw [Option.map_some, h i y hi hy]

theorem faultActive_eq {s : State} {k : Nat} {x : Slot} (hk : OnlyWorking s.queue k x) (ha : x.state = .active) :
    s.faultActive.queue = { s.queue with
      slots := s.queue.slots.set k { x with state := .faulted, kept := some ⟨s.unitResults, s.llu.achievement⟩ } } := by
  have hr : s.reachedBy x = ⟨s.unitResults, s.llu.achievement⟩ := by simp [State.reachedBy, ha]
  obtain ⟨hx, -, hothers⟩ := hk
  have hmap := map_eq_set (f := fun y : Slot => if y.state = .active then { y with state := .faulted, kept := some (s.reachedBy y) } else y)
    hx fun j y hj hy => if_neg (hothers j y hj hy).1
  simp only [if_pos ha, hr] at hmap
  rw [← hmap]
  rfl

theorem faultActive_none {s : State} (h : ∀ x ∈ s.queue.slots, x.state ≠ .active) : s.faultActive.queue = s.queue := by
  have hmap : s.queue.slots.map (fun y : Slot => if y.state = .active then { y with state := .faulted, kept := some (s.reachedBy y) } else y)
      = s.queue.slots :=
    (List.map_congr_left fun y hy => if_neg (h y hy)).trans (List.map_id' _)
  exact congrArg (fun l => { s.queue with slots := l }) hmap

/-- The slot made FAULTED was the one at work, so an entry is at work after the halt when one was before. -/
theorem faultActive_activePos (s : State) : s.faultActive.queue.activePos = s.queue.activePos := by
  show (s.queue.slots.map _).findIdx? _ = s.queue.slots.findIdx? _
  rw [List.findIdx?_map]
  congr 1
  funext y
  simp only [Function.comp]
  split
  · next hy => rw [hy]; rfl
  · rfl

theorem haltedSlot_eq {s : State} {k : Nat} {x : Slot} (hk : OnlyWorking s.queue k x) (ha : x.state = .active) :
    s.haltedSlot = some ((s.queue.oldest + k) % 64) := by
  have hhas : s.queue.has .active = true :=
    List.any_eq_true.2 ⟨x, List.mem_of_getElem? hk.1, by simp [ha]⟩
  rw [State.haltedSlot, if_pos hhas, WorkQueue.activeIndex, hk.active.1]
  rfl

theorem haltedSlot_none {s : State} (h : ∀ x ∈ s.queue.slots, x.state ≠ .active) : s.haltedSlot = none := by
  refine if_neg ?_
  simpa [WorkQueue.has] using h

/-! ### The halt (R37) -/

/-- The halt before its retreat: the ACTIVE slot is FAULTED, the halt record names it, and the report is placed. -/
def State.haltBegun (code : FaultCode) (source : FaultSource) (s : State) : State :=
  { s with
    queue := s.faultActive.queue
    job := { s.job with state := .halted, phase := none, pausePending := false, halt := some ⟨code, source, s.haltedSlot, none⟩ }
    engine := .noRecord
    link := s.link.place (.jobState
      ⟨.halted, none, s.job.endReason, some ⟨code, source, s.haltedSlot, none⟩, false, s.faultActive.queue.activeIndex⟩) }

theorem halt_eq (code : FaultCode) (source : FaultSource) (s : State) : halt code source s = commonRetreat false (s.haltBegun code source) :=
  rfl

/-- An event that halts the job in `s`. -/
theorem unitEvent_halted {code : FaultCode} {source : FaultSource} {s : State} (hu : ∀ u, (s.unit u).Shaped) (hl : s.llu.Shaped) :
    Halted code source s (unitEvent (halt code source s)) := by
  obtain ⟨w, hw⟩ : ∃ w, w = followRetreat ((s.haltBegun code source).retreating false) := ⟨_, rfl⟩
  have hwork : (s.haltBegun code source).entryInWork = s.entryInWork := congrArg Option.isSome (faultActive_activePos s)
  have hret : Retreated false s.entryInWork (s.haltBegun code source) w := by
    rw [hw, ← hwork]
    exact followed_retreated _ _
  have hevent : unitEvent (halt code source s) = { w with link := w.link.begin } := by
    rw [halt_eq, commonRetreat_eq (s := s.haltBegun code source) hu hl, unitEvent, followRetreat_followRetreat, ← hw]
    exact conclude_of_stop (by rw [hret.1]; rfl) (by rw [hret.1]; rfl)
  have hkeeps := followRetreat_keeps ((s.haltBegun code source).retreating false)
  rw [← hw] at hkeeps
  obtain ⟨hlink, hqueue, hjob, hparams, hengine, htable, hmeas, htrail, -, -, htest, -, hpending⟩ := hkeeps
  rw [hevent]
  refine ⟨fun k x hk ha => ⟨?_, ?_⟩, fun hno => ⟨?_, ?_⟩, ?_, hengine, hret, hparams, htable, hmeas, htrail, htest, hpending, ?_⟩
  · exact hqueue.trans (faultActive_eq hk ha)
  · rw [← haltedSlot_eq hk ha]
    exact congrArg Job.halt hjob
  · exact hqueue.trans (faultActive_none hno)
  · rw [← haltedSlot_none hno]
    exact congrArg Job.halt hjob
  · simp only [hjob]
    rfl
  · simp only [hlink, hjob, hqueue]
    rfl

/-! ### A fault that does not halt (R26) -/

/-- Without a running job the drive permission does not hold (R105). -/
theorem driveDue_notRunning {s : State} (h : s.job.state ≠ .running) : s.driveDue = .stop := by
  have hp : s.drivePermitted = false := by simp [State.drivePermitted, h]
  rw [State.driveDue, hp]
  rfl

/-- An event outside a running job follows the retreat up and stops the drive. -/
theorem unitEvent_notRunning {w : State} (h : w.job.state ≠ .running) : unitEvent w = { followRetreat w with
    travel := { w.travel with drive := .stop }
    field := { w.field with sent := w.field.sent ++ w.stopOrders }
    link := w.link.begin } := by
  have hdue : (followRetreat w).driveDue = .stop := driveDue_notRunning (by simpa using h)
  rw [unitEvent, conclude, issueDrive_eq, hdue]
  simp [startSending, State.setLink, State.stopOrders]

/-- The follow-up of a retreat reads the units, the LLU, the arbiter and the stop line alone. -/
theorem RetreatFollowed.congr {before : Llu} {a : Arbiter} {t t' : State} (h : RetreatFollowed before a t) (hu : t'.units = t.units)
    (hl : t'.llu = t.llu) (ha : t'.arb = t.arb) (hs : t'.field.stopLine = t.field.stopLine) : RetreatFollowed before a t' := by
  have hunit (u : UnitId) : t'.unit u = t.unit u := congrArg (·.get u) hu
  simpa only [RetreatFollowed, ReleasedAfter, RetreatOver, hunit, hl, ha, hs] using h

/-- What stands as it was at a fault that does not halt. -/
theorem unitEvent_unhalted {s w : State} (hw : w = { s with job := w.job, link := w.link }) (hr : w.job.state ≠ .running) :
    (unitEvent w).queue = s.queue ∧ (unitEvent w).params = s.params ∧ (unitEvent w).engine = s.engine ∧
    (unitEvent w).table = s.table ∧ (unitEvent w).meas = s.meas ∧ (unitEvent w).trail = s.trail ∧ (unitEvent w).test = s.test ∧
    (unitEvent w).pending = s.pending ∧ (unitEvent w).units = s.units ∧ RetreatFollowed s.llu s.arb (unitEvent w) ∧
    (unitEvent w).travel = { s.travel with drive := .stop } ∧
    (unitEvent w).field = { s.field with sent := s.field.sent ++ s.stopOrders } := by
  have hfollowed : RetreatFollowed w.llu w.arb (unitEvent w) := by
    rw [unitEvent_notRunning hr]
    exact (followRetreat_followed w).congr rfl rfl rfl (by simp)
  obtain ⟨-, hqueue, -, hparams, hengine, htable, hmeas, htrail, -, hunits, htest, -, hpending⟩ := followRetreat_keeps w
  rw [unitEvent_notRunning hr] at hfollowed ⊢
  obtain ⟨job, hjob⟩ : ∃ j, j = w.job := ⟨_, rfl⟩
  obtain ⟨link, hlink⟩ : ∃ l, l = w.link := ⟨_, rfl⟩
  rw [← hjob, ← hlink] at hw
  subst hw
  exact ⟨hqueue, hparams, hengine, htable, hmeas, htrail, htest, hpending, hunits, hfollowed, rfl, rfl⟩

/-- A fault code takes its way by the job's state (R26, R37). -/
theorem unitEvent_faulted {code : FaultCode} {source : FaultSource} {s : State} (hu : ∀ u, (s.unit u).Shaped) (hl : s.llu.Shaped) :
    Faulted code source s (unitEvent (raiseFault code source s)) := by
  have hhalted (h : raiseFault code source s = halt code source s) :
      Halted code source s (unitEvent (raiseFault code source s)) := h ▸ unitEvent_halted hu hl
  cases hs : s.job.state with
  | running => exact ⟨fun _ => hhalted (by rw [raiseFault, hs]), by simp [hs], by simp [hs], by simp [hs]⟩
  | paused => exact ⟨fun _ => hhalted (by rw [raiseFault, hs]), by simp [hs], by simp [hs], by simp [hs]⟩
  | halted =>
    have hw : raiseFault code source s = recordFurther code s := by rw [raiseFault, hs]
    have hr : (recordFurther code s).job.state ≠ .running := by simp [recordFurther, hs]
    rw [hw]
    refine ⟨by simp [hs], fun _ => unitEvent_unhalted rfl hr, fun _ => ?_, by simp [hs]⟩
    rw [unitEvent_notRunning hr]
    simp [recordFurther, reportJob, place, State.jobStatus, State.setLink, State.setJob, hs]
  | idle =>
    have hw : raiseFault code source s = s := by rw [raiseFault, hs]
    have hr : s.job.state ≠ .running := by simp [hs]
    rw [hw]
    refine ⟨by simp [hs], fun _ => unitEvent_unhalted rfl hr, by simp [hs], fun _ => ?_⟩
    rw [unitEvent_notRunning hr]
    simp

end Sys2Proof.Machine

namespace Sys2Proof.Machine

/-! ## The assertion of the stop line (R138, R160, R170, R191) -/

/-! ### Units -/

theorem holdUnit_step (u : UnitId) (s : State) :
    holdUnit u s = s.unitStep u ((s.unit u).stopped s.entryInWork) s.arb ((s.unit u).stopOrders u) := by
  have held : changeUnit u (fun x => { x with state := .held, waiting := false, frozen := x.frozen || s.entryInWork }) (cancelUnit u s) =
      s.unitStep u { (s.unit u).ended with state := .held, waiting := false, frozen := (s.unit u).frozen || s.entryInWork } s.arb
        ((s.unit u).cancels u) := by
    rw [cancelUnit_step, changeUnit_step]
    simp [TUnit.ended]
  unfold holdUnit TUnit.stopped TUnit.stopOrders
  rw [held]
  cases hst : (s.unit u).state
  case parked | set | unhomed | stuck | held => simp [UnitState.stopIgnored]
  all_goals cases ho : (s.unit u).order <;> simp [UnitState.stopIgnored, TUnit.ended, TUnit.cancels, ho]

/-- The assertion as the four units take it, in one change of the state (R138). -/
theorem holdUnits_eq (s : State) : holdUnits s =
    s.unitsStep (fun _ x => x.stopped s.entryInWork) (fun _ _ a => a) (fun u x => x.stopOrders u) := by
  refine four_units fun u t _ hq => ?_
  have hw : t.entryInWork = s.entryInWork := by rw [State.entryInWork, hq]; rfl
  rw [holdUnit_step, hw]

/-- A stopped unit rests. -/
theorem TUnit.stopped_resting (inWork : Bool) (x : TUnit) : (x.stopped inWork).state.resting = true := by
  unfold TUnit.stopped
  split
  case h_6 => rfl
  all_goals rename_i h; rw [h]; rfl

theorem TUnit.Shaped.stopped {x : TUnit} (h : x.Shaped) (inWork : Bool) : (x.stopped inWork).Shaped := by
  unfold TUnit.stopped
  split
  case h_6 => exact ⟨rfl, h.2.1, rfl, fun _ => .inr (.inr (.inl rfl)), by simp⟩
  all_goals exact h

/-! ### The LLU -/

theorem lluStop_step (s : State) : lluStop s = s.lluStep s.llu.stopped s.arb s.llu.stopOrders := by
  have held : changeLlu (fun x => { x with state := .held, waiting := false, joinHold := none, settle := none }) (cancelLlu s) =
      s.lluStep { s.llu.ended with state := .held, waiting := false, joinHold := none, settle := none } s.arb s.llu.cancels := by
    rw [cancelLlu_step, changeLlu_step]
    simp
  unfold lluStop Llu.stopped Llu.stopOrders
  rw [held]
  cases hst : s.llu.state
  case isOpen | unhomed | stuck | held => simp [LluState.stopIgnored]
  all_goals cases ho : s.llu.order <;> simp [LluState.stopIgnored, Llu.ended, Llu.cancels, ho]

/-- A stopped LLU is in one of the four states the assertion leaves as they are, or HELD. -/
theorem Llu.stopped_state (x : Llu) :
    x.stopped.state = .isOpen ∨ x.stopped.state = .unhomed ∨ x.stopped.state = .stuck ∨ x.stopped.state = .held := by
  unfold Llu.stopped
  split <;> simp_all

theorem Llu.Shaped.stopped {x : Llu} (h : x.Shaped) : x.stopped.Shaped := by
  unfold Llu.stopped
  split
  case h_5 => exact ⟨rfl, h.2.1, by simp [Llu.ended], fun _ _ => ⟨rfl, rfl⟩, by simp, by simp, by simp⟩
  all_goals exact h

/-! ### The self-test -/

/-- The self-test record after the assertion (R191). -/
def SelfTest.halted (x : SelfTest) : SelfTest :=
  if x.running then { x with running := false, timer := none, failure := some ⟨x.item.1, x.item.2, .stopLine, 0, 0⟩ } else x

/-- The line after the assertion: a running self-test places its report (R188, R191). -/
def SelfTest.reports (x : SelfTest) (l : Link) : Link :=
  if x.running then
    l.place (.testDone .fail x.requested.1 x.requested.2 x.passed (some ⟨x.item.1, x.item.2, .stopLine, 0, 0⟩))
  else l

theorem stopTest_eq (s : State) : stopTest s = { s with
    test := s.test.halted
    link := s.test.reports s.link
    field := { s.field with sent := s.field.sent ++ (if s.test.running then s.test.restOrders else []) } } := by
  cases hr : s.test.running
  · simp [stopTest, SelfTest.halted, SelfTest.reports, hr]
  · by_cases hi : s.test.item.1 = 1 <;>
      simp [stopTest, SelfTest.halted, SelfTest.reports, hr, endTest, restValve, SelfTest.restOrders, SelfTest.failed, place, send,
        State.setField, State.setTest, State.setLink, hi]

/-! ### Every block together -/

/-- The assertion as every block but Job Control has taken it. -/
def State.lineAsserted (s : State) : State :=
  { s with
    link := s.test.reports s.link
    travel := s.idled.travel
    units := s.units.map fun x => x.stopped s.entryInWork
    llu := s.llu.stopped, arb := s.arb.stop, test := s.test.halted
    field :=
      { stopLine := true
        sent := s.field.sent ++ s.stopOrders ++ (UnitId.all.flatMap fun u => (s.unit u).stopOrders u) ++ s.llu.stopOrders
          ++ (if s.test.running then s.test.restOrders else []) } }

theorem assertStopLine_eq (s : State) : assertStopLine s = raiseFault .stopLine .stopLine s.lineAsserted := by
  rw [assertStopLine, stopTest_eq, lluStop_step, holdUnits_eq, positionerIdle_eq]
  rfl

theorem lineAsserted_unit (s : State) (u : UnitId) : s.lineAsserted.unit u = (s.unit u).stopped s.entryInWork := Quad.get_map ..

/-! ### The arbiter under the stop line (R170) -/

/-- An arbiter with neither grants nor requests has nothing to give back. -/
theorem Arbiter.release_of_empty {a : Arbiter} (h : a.granted = []) (r : Requester) : a.release r = a := by
  simp [Arbiter.release, h]

theorem Arbiter.withdraw_of_empty {a : Arbiter} (hg : a.granted = []) (hw : a.waiting = []) (r : Requester) : a.withdraw r = a := by
  simp [Arbiter.withdraw, hw, Arbiter.release_of_empty hg]

/-- The retreat that follows the assertion asks the arbiter for nothing. -/
theorem TUnit.stopped_retreatArb (inWork : Bool) (u : UnitId) (x : TUnit) (a : Arbiter) : (x.stopped inWork).retreatArb false u a = a := by
  unfold TUnit.stopped
  split
  case h_6 => rfl
  all_goals rename_i h; simp [TUnit.retreatArb, h]

theorem Llu.stopped_retreatArb (x : Llu) {a : Arbiter} (hg : a.granted = []) (hw : a.waiting = []) : x.stopped.retreatArb a = a := by
  have hleft : (if x.stopped.waiting then a.withdraw .llu else a.release .llu) = a := by
    rw [Arbiter.withdraw_of_empty hg hw, Arbiter.release_of_empty hg, ite_self]
  rcases x.stopped_state with h | h | h | h <;> simp only [Llu.retreatArb, h, hleft]

theorem lineAsserted_retreatArb (s : State) : s.lineAsserted.retreatArb false = { s.lineAsserted.arb with retreatMode := true } := by
  have hunits : (UnitId.all.foldl (fun a u => (s.lineAsserted.unit u).retreatArb false u a) { s.lineAsserted.arb with retreatMode := true })
      = { s.lineAsserted.arb with retreatMode := true } := by
    simp only [lineAsserted_unit, TUnit.stopped_retreatArb]
    rfl
  rw [State.retreatArb, hunits]
  exact Llu.stopped_retreatArb s.llu rfl rfl

/-- While the stop line is asserted a retreat places no request. -/
theorem RetreatFollowed.of_stopLine {before : Llu} {a : Arbiter} {t : State} (h : RetreatFollowed before a t) (hs : t.field.stopLine = true) :
    t.arb = { a with retreatMode := t.arb.retreatMode } := by
  obtain ⟨⟨-, hstays⟩, -, harb⟩ := h
  rwa [if_pos (hstays (by simp [hs]))] at harb

/-- The fault leaves the arbiter empty: the retreat mode alone may change. -/
theorem Faulted.stopLine_arb {s t : State} (h : Faulted .stopLine .stopLine s.lineAsserted t) :
    t.arb = { s.lineAsserted.arb with retreatMode := t.arb.retreatMode } := by
  obtain ⟨hhalts, hstays, -⟩ := h
  by_cases hs : s.job.state = .running ∨ s.job.state = .paused
  · obtain ⟨-, -, -, -, ⟨-, -, hfollowed, hfield⟩, -⟩ := hhalts hs
    rw [lineAsserted_retreatArb] at hfollowed
    exact hfollowed.of_stopLine (by rw [hfield]; rfl)
  · have hcase : s.job.state = .halted ∨ s.job.state = .idle := by
      cases h : s.job.state <;> simp_all
    obtain ⟨-, -, -, -, -, -, -, -, -, hfollowed, -, hfield⟩ := hstays hcase
    exact hfollowed.of_stopLine (by rw [hfield]; rfl)

end Sys2Proof.Machine

namespace Sys2Proof.Machine

/-! ## The release of the stop line (R139, R160, R170) -/

/-- A unit after the release: a HELD one opens its closed tines, or asks to go up to park, under a retreat (R139). -/
def TUnit.resumed (x : TUnit) : TUnit :=
  if x.state ≠ .held then x
  else if x.tinesClosed then { x.sentOpening with retreat := true }
  else { x.asks .retreating with retreat := true }

/-- What the release makes a unit send (R139). -/
def TUnit.resumeOrders (u : UnitId) (x : TUnit) : List FieldOrder :=
  if x.state = .held ∧ x.tinesClosed = true then [.unit u .opens (numberAfter x.orderNo)] else []

theorem resumeUnit_step {u : UnitId} {s : State} (h : (s.unit u).orderNo ≤ 255) :
    resumeUnit u s = s.unitStep u (s.unit u).resumed
      (if (s.unit u).state == .held && !(s.unit u).tinesClosed then s.arb.request (.unit u) else s.arb)
      ((s.unit u).resumeOrders u) := by
  unfold resumeUnit TUnit.resumed TUnit.resumeOrders
  dsimp only
  by_cases hst : (s.unit u).state = .held
  · cases hc : (s.unit u).tinesClosed
    · simp [hst, enterMotion_step, changeUnit_step, TUnit.asks]
    · rw [changeUnit_step, startOpening_step (by simpa using h)]
      simp [hst, TUnit.sentOpening]
  · simp [hst]

/-- The release as the four units take it, in one change of the state (R139). -/
theorem resumeUnits_eq {s : State} (h : ∀ u, (s.unit u).Shaped) : resumeUnits s = { s with
    units := s.units.map TUnit.resumed
    arb := (UnitId.all.filter fun u => (s.unit u).state == .held && !(s.unit u).tinesClosed).foldl
      (fun a u => a.request (.unit u)) s.arb
    field := { s.field with sent := s.field.sent ++ UnitId.all.flatMap fun u => (s.unit u).resumeOrders u } } := by
  have hstep := four_units (step := resumeUnit) (f := fun _ x => x.resumed) (s := s)
    (g := fun u x a => if x.state == .held && !x.tinesClosed then a.request (.unit u) else a) (o := fun u x => x.resumeOrders u)
    fun u t hu _ => resumeUnit_step (by obtain ⟨-, hno, -⟩ := h u; rwa [hu])
  rw [resumeUnits, hstep, List.foldl_filter]
  rfl

/-- The LLU after the release: a HELD one waits for the units, or is OPEN with its clamps open (R160). -/
def Llu.lineReleased (x : Llu) : Llu :=
  if x.state ≠ .held then x
  else if x.clampsClosed then { x with retreat := true }
  else { x with state := .isOpen, retreat := false }

theorem lluStopReleased_eq (s : State) : lluStopReleased s = { s with llu := s.llu.lineReleased } := by
  unfold lluStopReleased Llu.lineReleased openUnderRetreat
  split
  · rfl
  · split <;> rfl

/-- The release as every block has taken it, the retreat not yet followed up. -/
def State.lineFreed (s : State) : State :=
  { s with
    units := s.units.map TUnit.resumed
    llu := s.llu.lineReleased
    arb := (UnitId.all.filter fun u => (s.unit u).state == .held && !(s.unit u).tinesClosed).foldl
      (fun a u => a.request (.unit u)) s.arb.stopReleased
    field := { stopLine := false, sent := s.field.sent ++ UnitId.all.flatMap fun u => (s.unit u).resumeOrders u } }

theorem releaseStopLine_eq {s : State} (h : ∀ u, (s.unit u).Shaped) : releaseStopLine s = s.lineFreed := by
  have hunits := resumeUnits_eq (s := arbiter Arbiter.stopReleased (setStopLine false s)) h
  rw [releaseStopLine, hunits, lluStopReleased_eq]
  rfl

end Sys2Proof.Machine

section
open Sys2Proof Sys2Proof.Machine

/-- Settles O56: the assertion is one change of the state and then the fault's own way; the release is one change and the retreat's
follow-up. -/
theorem stopLineHoldsAndFrees : Obligations.StopLineHoldsAndFrees := by
  unfold Obligations.StopLineHoldsAndFrees
  rintro s ⟨hunits, hllu, -⟩
  refine ⟨fun hline => ?_, fun hline => ?_⟩
  · have hexec : exec .stopLineAssertion s = .next (unitEvent (raiseFault .stopLine .stopLine s.lineAsserted)) := by
      rw [← assertStopLine_eq]
      exact congrArg Host.Outcome.next (if_neg (by simp [hline]))
    have hfault : Faulted .stopLine .stopLine s.lineAsserted (unitEvent (raiseFault .stopLine .stopLine s.lineAsserted)) :=
      unitEvent_faulted (fun u => lineAsserted_unit s u ▸ (hunits u).stopped _) hllu.stopped
    exact ⟨_, s.lineAsserted, hexec, rfl, lineAsserted_unit s, rfl, hfault.stopLine_arb,
      fun hr => ⟨if_neg (by simp [hr]), if_neg (by simp [hr])⟩, fun f hr hf => hf ▸ ⟨if_pos hr, if_pos hr⟩, rfl, hfault⟩
  · have hexec : exec .stopLineRelease s = .next (unitEvent s.lineFreed) := by
      rw [← releaseStopLine_eq hunits]
      exact congrArg Host.Outcome.next (if_pos hline)
    obtain ⟨⟨htravel, hfield⟩, hlink⟩ := conclude_issued (followRetreat s.lineFreed)
    have hsent : (followRetreat s.lineFreed).field = s.lineFreed.field := by simp
    have htrav : (followRetreat s.lineFreed).travel = s.travel := by simp [State.lineFreed]
    have hbegin : (conclude (followRetreat s.lineFreed)).link = s.link.begin := hlink.trans (by simp [State.lineFreed])
    refine ⟨_, s.llu.lineReleased, hexec, ?_, fun u => ?_, rfl, ?_, ?_, ?_⟩
    · refine (conclude_eq (followRetreat s.lineFreed)).trans ?_
      simp only [unitEvent, hbegin, conclude_keeps, followRetreat_keeps]
      rfl
    · have hu : (unitEvent s.lineFreed).units = s.units.map TUnit.resumed := by simp [State.lineFreed]
      rw [State.unit, hu, Quad.get_map]
      rfl
    · exact (followRetreat_followed s.lineFreed).congr (by simp [unitEvent]) (by simp [unitEvent]) (by simp [unitEvent]) (by simp [unitEvent])
    · rw [htrav] at htravel
      exact htravel
    · rw [hsent, htrav, List.append_nil] at hfield
      exact hfield

end

namespace Sys2Proof.Machine

/-! ## The division of the formulas (R45) -/

/-- A negative dividend is divided by its magnitude. -/
theorem divRound_of_neg {a : Int} (ha : a < 0) (b : Int) : divRound a b = -divRound (-a) b := by
  rw [divRound, if_pos ha, divRound, if_neg (by omega)]

theorem divRound_zero {b : Int} (hb : 0 < b) : divRound 0 b = 0 := by
  rw [divRound, if_neg (by omega)]
  exact Int.ediv_eq_zero_of_lt (by omega) (by omega)

/-- The quotient of a dividend that is not negative is not negative, and the dividend exceeds its multiple by less than half the
divisor, or falls short of it by at most the half. -/
theorem divRound_of_nonneg {a b : Int} (ha : 0 ≤ a) (hb : 0 < b) :
    0 ≤ divRound a b ∧ -b < 2 * (divRound a b * b - a) ∧ 2 * (divRound a b * b - a) ≤ b := by
  obtain ⟨q, hq⟩ : ∃ q, q = divRound a b := ⟨_, rfl⟩
  have hdiv : q = (2 * a + b) / (2 * b) := by rw [hq, divRound, if_neg (by omega)]
  have hnonneg : 0 ≤ q := hdiv ▸ Int.ediv_nonneg (by omega) (by omega)
  have hle : q * (2 * b) ≤ 2 * a + b := hdiv ▸ Int.ediv_mul_le _ (by omega)
  have hlt : 2 * a + b < (q + 1) * (2 * b) := hdiv ▸ Int.lt_ediv_add_one_mul_self _ (by omega)
  rw [← hq]
  exact ⟨hnonneg, by linarith, by linarith⟩

/-! ## Limits (R54, R56) -/

theorem limit_eq (n : Nat) (x : Int) : limit n x = if x.natAbs ≤ n then x else if 0 < x then (n : Int) else -n := by
  unfold limit clamp
  split_ifs <;> omega

theorem exceeds_iff (n : Nat) (x : Int) : exceeds n x = true ↔ (n : Int) < x.natAbs := by
  simp only [exceeds, Bool.or_eq_true, decide_eq_true_eq]
  omega

theorem natAbs_limit_le (n : Nat) (x : Int) : ((limit n x).natAbs : Int) ≤ n := by
  rw [limit_eq]
  split_ifs <;> omega

/-! ## The lining shift (R52 to R54) -/

/-- The error of the track at C, as the correction's own terms give it (R53). -/
theorem lineError_correctionOf (p : Params) (e : Entry) (pos : Nat) (c : Int) (i : Inputs) :
    i.m - (correctionOf p e pos c i).d + (correctionOf p e pos c i).rl =
      lineError i.m (versine p.aL p.bL i.k) (reduction p.aL p.bL i.eA e.frontOffset) := rfl

/-- The lining shift and its flag rest on the error at C and line_max alone (R54). -/
theorem correctionOf_lining (p : Params) (e : Entry) (pos : Nat) (c : Int) (i : Inputs) :
    let error := lineError i.m (versine p.aL p.bL i.k) (reduction p.aL p.bL i.eA e.frontOffset)
    (correctionOf p e pos c i).s = limit p.lineMax (-error) ∧
    (correctionOf p e pos c i).flags.lineClamped = exceeds p.lineMax (-error) := ⟨rfl, rfl⟩

/-! ## The lifts (R55 to R60) -/

/-- The other rail stands above or below the grade rail by the cant step (R57). -/
theorem railLifts_eq (grade : Side) (ug delta : Int) :
    railLifts grade ug delta = (if grade = .left then ug else ug - delta, if grade = .left then ug + delta else ug) := by
  cases grade <;> rfl

theorem railLifts_apart (grade : Side) (ug delta : Int) : (railLifts grade ug delta).2 - (railLifts grade ug delta).1 = delta := by
  cases grade <;> simp [railLifts]

theorem raiseBoth_eq (left right : Int) : raiseBoth left right = max 0 (-(min left right)) := by
  unfold raiseBoth
  split <;> omega

/-- Lifts raised together and limited from above lie within 0 to the limit, and no further apart than before (R58, R59, R62). -/
theorem raised_lifts_bounded (left right : Int) (liftMax : Nat) :
    0 ≤ min (left + raiseBoth left right) liftMax ∧ 0 ≤ min (right + raiseBoth left right) liftMax ∧
    (min (left + raiseBoth left right) (liftMax : Int) - min (right + raiseBoth left right) liftMax).natAbs
      ≤ (right - left).natAbs := by
  rw [raiseBoth_eq]
  omega

/-- The cant step of a correction, limited (R56). -/
def cantStepOf (p : Params) (i : Inputs) : Int := limit p.cantStepMax (i.cd - i.cm)

/-- The lifts of the two rails after stage 4, neither raised nor limited yet (R55 to R57). -/
def railLiftsOf (p : Params) (e : Entry) (i : Inputs) : Int × Int :=
  railLifts p.grade (gradeLift i.h (reduction p.aV p.bV i.zA e.frontLift) e.allowance) (cantStepOf p i)

theorem correctionOf_lifts (p : Params) (e : Entry) (pos : Nat) (c : Int) (i : Inputs) :
    let lifts := railLiftsOf p e i
    (correctionOf p e pos c i).uL = min (lifts.1 + raiseBoth lifts.1 lifts.2) p.liftMax ∧
    (correctionOf p e pos c i).uR = min (lifts.2 + raiseBoth lifts.1 lifts.2) p.liftMax := ⟨rfl, rfl⟩

/-- The hook lift before its limit: the lift of the hook's rail and the branch offset (R60). -/
def rawHookOf (e : Entry) (r : Correction) : Int := (if e.hookSide = .left then r.uL else r.uR) + e.branch.getD 0

/-- The hook lift and its side are present exactly with the hook (R60). -/
theorem correctionOf_hook (p : Params) (e : Entry) (pos : Nat) (c : Int) (i : Inputs) :
    (correctionOf p e pos c i).hookLift =
      (if e.hook then some (max 0 (min (rawHookOf e (correctionOf p e pos c i)) p.liftMax)) else none) ∧
    (correctionOf p e pos c i).hookSide = (if e.hook then some e.hookSide else none) := by
  rw [← clamp_eq (by omega), rawHookOf]
  cases hside : e.hookSide <;> simp [correctionOf, hside]

/-- Each flag of the lifts names the limit that changed a value (R56, R58 to R60). -/
theorem correctionOf_liftFlags (p : Params) (e : Entry) (pos : Nat) (c : Int) (i : Inputs) :
    let r := correctionOf p e pos c i
    let lifts := railLiftsOf p e i
    (r.flags.cantLimited = true ↔ (p.cantStepMax : Int) < (i.cd - i.cm).natAbs) ∧
    (r.flags.trackHigh = true ↔ min lifts.1 lifts.2 < 0) ∧
    (r.flags.liftClamped = true ↔ (p.liftMax : Int) < lifts.1 + raiseBoth lifts.1 lifts.2 ∨
      (p.liftMax : Int) < lifts.2 + raiseBoth lifts.1 lifts.2 ∨
      (e.hook = true ∧ (rawHookOf e r < 0 ∨ (p.liftMax : Int) < rawHookOf e r))) := by
  refine ⟨exceeds_iff _ _, decide_eq_true_iff, ?_⟩
  cases hside : e.hookSide <;>
    simp [correctionOf, rawHookOf, railLiftsOf, cantStepOf, hside, or_assoc]

/-- The lift demands of a correction lie within their limits (R62). -/
theorem correctionOf_lifts_bounded {p : Params} {e : Entry} {pos : Nat} {c : Int} {i : Inputs} {r : Correction}
    (hr : r = correctionOf p e pos c i) :
    0 ≤ r.uL ∧ r.uL ≤ p.liftMax ∧ 0 ≤ r.uR ∧ r.uR ≤ p.liftMax ∧ ((r.uL - r.uR).natAbs : Int) ≤ p.cantStepMax := by
  obtain ⟨hleft, hright⟩ := correctionOf_lifts p e pos c i
  obtain ⟨hleft0, hright0, hapart⟩ := raised_lifts_bounded (railLiftsOf p e i).1 (railLiftsOf p e i).2 p.liftMax
  have hcant : (railLiftsOf p e i).2 - (railLiftsOf p e i).1 = cantStepOf p i := railLifts_apart ..
  have hstep : ((cantStepOf p i).natAbs : Int) ≤ p.cantStepMax := natAbs_limit_le ..
  rw [← hr] at hleft hright
  rw [← hleft] at hleft0 hapart
  rw [← hright, hcant] at hapart
  rw [← hright] at hright0
  exact ⟨hleft0, hleft ▸ min_le_right .., hright0, hright ▸ min_le_right .., by omega⟩

/-- The hook demand is the hook lift, on the hook's side (R62). -/
theorem demands_hook {r : Correction} {lift : Int} {side : Side} (hl : r.hookLift = some lift) (hs : r.hookSide = some side) :
    r.demands.hook = some (lift, side) := by
  simp [Correction.demands, hl, hs]

/-! ## The failing computation (R48, R49, R51) -/

/-- The computation fails with SENSOR_LOST when a channel it reads is LOST (R48). -/
theorem correctionInputs_sensorLost {p : Params} {cs : Channels ChannelRec} {ch : Channel} (table : DesignTable) (trail : Trail)
    (e : Entry) (c : Int) (hch : ch ∈ [Channel.line, levelChannel p.grade, .cant]) (hlost : (cs.get ch).state = .lost) :
    correctionInputs p cs table trail e c = .error .sensorLost := by
  refine if_pos ?_
  have hcase : ch = .line ∨ ch = levelChannel p.grade ∨ ch = .cant := by simpa using hch
  rcases hcase with rfl | rfl | rfl <;> simp_all [ChannelRec.isLost, Channels.get]

/-- The computation fails with OFF_TABLE when it has its channels and the table has no answer (R49). -/
theorem correctionInputs_offTable {p : Params} {cs : Channels ChannelRec} {table : DesignTable} {c : Int} (trail : Trail) (e : Entry)
    (hch : ∀ ch ∈ [Channel.line, levelChannel p.grade, .cant], (cs.get ch).state ≠ .lost) (hm : p.mode = .design)
    (hl : table.lookup c = none) : correctionInputs p cs table trail e c = .error .offTable := by
  have hline : cs.line.state ≠ .lost := hch .line (by simp)
  have hlevel : (cs.get (levelChannel p.grade)).state ≠ .lost := hch _ (by simp)
  have hcant : cs.cant.state ≠ .lost := hch .cant (by simp)
  simp [correctionInputs, ChannelRec.isLost, hline, hlevel, hcant, hm, hl]

/-- The computation has failed: the slot at place `k` has lost its copy, and the job halts (R51). -/
theorem inPosition_failed {s : State} {k : Nat} {x : Slot} {code : FaultCode} (hs : s.job.state = .running)
    (hp : s.job.phase = some .positioning) (hk : OnlyWorking s.queue k x)
    (hi : correctionInputs s.params s.meas.channels s.table s.trail x.entry s.travel.p = .error code) :
    inPosition s = halt code .computation
      { s with queue := { s.queue with slots := s.queue.slots.set k { x with copy := none } } } := by
  have hcond : ¬ (s.job.state ≠ .running ∨ s.job.phase ≠ some .positioning) := by simp [hs, hp]
  rw [inPosition, if_neg hcond]
  simp only [hk.active.1, hk.active.2, hi, WorkQueue.modify, modify_eq_set hk.1, raiseFault, State.setQueue, hs]

/-- A rest within the tolerance of T is the in-position event (R112). -/
theorem judgeRest_within {s : State} {goal : Int} (hg : s.travel.target = some goal)
    (htol : (s.travel.p - goal).natAbs ≤ s.params.posTolerance) :
    judgeRest s = inPosition { s with travel := { s.travel with state := .inPosition, settle := none } } := by
  have hout : s.travel.outside s.params = false := by
    simpa [Travel.outside, Travel.goal_eq hg] using htol
  rw [judgeRest, hout]
  rfl

/-- The settle timer's expiry judges the rest. -/
theorem exec_positionSettleExpiry {s : State} (hst : s.travel.state = .stopping) (hset : s.travel.settle.isSome = true) :
    exec .positionSettleExpiry s = .next (unitEvent (judgeRest s)) :=
  congrArg Host.Outcome.next (if_pos ⟨hst, hset⟩)

end Sys2Proof.Machine

section
open Sys2Proof Sys2Proof.Machine

/-- Settles O30: both clauses of the limit, and the case line_max = 0 between them, are read off the lining equation. -/
theorem liningShiftIsLimited : Obligations.LiningShiftIsLimited := by
  unfold Obligations.LiningShiftIsLimited
  rintro p e pos c i r rfl
  rw [lineError_correctionOf]
  obtain ⟨hs, hflag⟩ := correctionOf_lining p e pos c i
  refine ⟨fun h => ?_, fun h => ?_, fun h => ?_, ?_⟩
  · rw [hs, hflag, exceeds_iff, limit_eq, if_neg (by omega)]
    exact ⟨rfl, by omega⟩
  · rw [hs, hflag, limit_eq, if_pos (by omega), Bool.eq_false_iff, ne_eq, exceeds_iff]
    exact ⟨rfl, by omega⟩
  · have hzero := natAbs_limit_le p.lineMax (-lineError i.m (versine p.aL p.bL i.k) (reduction p.aL p.bL i.eA e.frontOffset))
    rw [hs, hflag, exceeds_iff]
    omega
  · intro p' e' pos' c' i' haL hbL hmax hfront hm hk heA
    obtain ⟨hs', hflag'⟩ := correctionOf_lining p' e' pos' c' i'
    rw [hs', hflag', haL, hbL, hmax, hfront, hm, hk, heA]
    exact ⟨hs.symm, hflag.symm⟩

/-- Settles O31: each stage by its equation, the demands by the bounds of the limited lifts. -/
theorem demandsStayWithinLimits : Obligations.DemandsStayWithinLimits := by
  unfold Obligations.DemandsStayWithinLimits
  rintro p e pos c i r rfl
  obtain ⟨hleft, hright⟩ := correctionOf_lifts p e pos c i
  obtain ⟨hhook, hside⟩ := correctionOf_hook p e pos c i
  obtain ⟨hcant, hhigh, hclamped⟩ := correctionOf_liftFlags p e pos c i
  obtain ⟨hleft0, hleftMax, hright0, hrightMax, hapart⟩ := correctionOf_lifts_bounded (rfl : _ = correctionOf p e pos c i)
  have hlifts := railLifts_eq p.grade (gradeLift i.h (reduction p.aV p.bV i.zA e.frontLift) e.allowance) (cantStepOf p i)
  refine ⟨⟨_, _, _, cantStepOf p i, (railLiftsOf p e i).1, (railLiftsOf p e i).2, _, rawHookOf e (correctionOf p e pos c i),
    rfl, rfl, rfl, rfl, rfl, rfl, rfl, rfl, hcant, limit_eq .., congrArg Prod.fst hlifts, congrArg Prod.snd hlifts,
    raiseBoth_eq .., hhigh, hleft, hright, rfl, hhook, hside, hclamped, rfl, decide_eq_true_iff, rfl⟩,
    rfl, rfl, rfl, natAbs_limit_le .., hleft0, hleftMax, hright0, hrightMax, hapart, fun h => ?_, fun h => ?_⟩
  · rw [if_pos h] at hhook hside
    exact ⟨_, demands_hook hhook hside, hhook, by omega, by omega⟩
  · rw [if_neg (by simp [h])] at hhook
    simp [Correction.demands, hhook]

/-- Settles O32: a negative dividend mirrors its magnitude, and the quotient of one that is not negative has its bounds. -/
theorem divisionRoundsHalfAway : Obligations.DivisionRoundsHalfAway := by
  unfold Obligations.DivisionRoundsHalfAway
  intro a b hb
  rcases lt_or_ge a 0 with ha | ha
  · obtain ⟨hsign, hlow, hhigh⟩ := divRound_of_nonneg (a := -a) (by omega) hb
    rw [divRound_of_neg ha, Int.neg_mul]
    omega
  · obtain ⟨hsign, hlow, hhigh⟩ := divRound_of_nonneg ha hb
    have hzero (h : a ≤ 0) : divRound a b = 0 := by rw [le_antisymm h ha, divRound_zero hb]
    omega

/-- Settles O34: the failing computation halts the job in the state in which the slot has lost its copy. -/
theorem failedComputationHalts : Obligations.FailedComputationHalts := by
  unfold Obligations.FailedComputationHalts
  intro s k x goal code hst hset hg htol hs hp hk _ hsound hcode
  obtain ⟨hunits, hllu, -⟩ := hsound
  have hfails : correctionInputs s.params s.meas.channels s.table s.trail x.entry s.travel.p = .error code := by
    rcases hcode with ⟨rfl, ch, hch, hlost⟩ | ⟨rfl, hch, hm, hl⟩
    · exact correctionInputs_sensorLost _ _ _ _ hch hlost
    · exact correctionInputs_offTable _ _ hch hm hl
  refine ⟨_, exec_positionSettleExpiry hst hset, ?_⟩
  have hin := inPosition_failed (s := { s with travel := { s.travel with state := .inPosition, settle := none } }) hs hp hk hfails
  rw [judgeRest_within hg htol, hin]
  exact unitEvent_halted hunits hllu

end

namespace Sys2Proof.Machine

/-! ## The job stays IDLE but for START JOB (R26, R27) -/

@[simp] theorem setPhase_jobState (p : Option Phase) (s : State) : (setPhase p s).job.state = s.job.state := rfl

@[simp] theorem giveUpHold_jobState (s : State) : (giveUpHold s).job.state = s.job.state := by simp [giveUpHold]

@[simp] theorem unitSet_jobState (s : State) : (unitSet s).job.state = s.job.state := by
  unfold unitSet
  split <;> simp

@[simp] theorem shiftDone_jobState (u : UnitId) (s : State) : (shiftDone u s).job.state = s.job.state := by
  unfold shiftDone
  dsimp only
  split <;> simp

/-- Work ends in a running job alone (R31). -/
@[simp] theorem testEndOfWork_idle {s : State} (h : s.job.state = .idle) : testEndOfWork s = s := by
  have hw : s.workEnded = false := by simp [State.workEnded, h]
  simp [testEndOfWork, workRounds, endOfWork, hw]

/-- A fault code is ignored in IDLE (R26). -/
@[simp] theorem raiseFault_idle {s : State} (h : s.job.state = .idle) (code : FaultCode) (source : FaultSource) :
    raiseFault code source s = s := by simp [raiseFault, h]

@[simp] theorem inPosition_idle {s : State} (h : s.job.state = .idle) : inPosition s = s := by simp [inPosition, h]

/-- A unit's done is ignored in IDLE (R31). -/
@[simp] theorem unitDone_idle {s : State} (h : s.job.state = .idle) (u : UnitId) : unitDone u s = s := by simp [unitDone, h]

@[simp] theorem lluReportsOpen_idle {s : State} (h : s.job.state = .idle) (residual : Option (Int × Int)) :
    lluReportsOpen residual s = s := by simp [lluReportsOpen, h]

@[simp] theorem entryLoaded_idle {s : State} (h : s.job.state = .idle) : entryLoaded s = s := by simp [entryLoaded, h]

@[simp] theorem parkDone_idle {s : State} (h : s.job.state = .idle) (u : UnitId) : (parkDone u s).job.state = .idle := by
  unfold parkDone
  dsimp only
  split <;> simp [h]

@[simp] theorem unitStuck_idle {s : State} (h : s.job.state = .idle) (u : UnitId) : (unitStuck u s).job.state = .idle := by
  simp [unitStuck, h]

@[simp] theorem insertionExpired_idle {s : State} (h : s.job.state = .idle) (u : UnitId) :
    (insertionExpired u s).job.state = .idle := by
  unfold insertionExpired blockInsertion
  dsimp only
  (repeat' split) <;> simp [h]

@[simp] theorem clampDone_idle {s : State} (h : s.job.state = .idle) : (clampDone s).job.state = .idle := by
  unfold clampDone
  dsimp only
  split <;> simp [h]

@[simp] theorem clampFailed_idle {s : State} (h : s.job.state = .idle) : (clampFailed s).job.state = .idle := by
  simp [clampFailed, h]

@[simp] theorem settleSample_idle {s : State} (h : s.job.state = .idle) : (settleSample s).job.state = .idle := by
  unfold settleSample endMeasurement
  dsimp only
  (repeat' split) <;> simp [h]

/-- A sample leaves the job IDLE, whatever the LLU makes of it. -/
@[simp] theorem lluSample_idle {s : State} (h : s.job.state = .idle) (before : Channels ChannelRec) :
    (lluSample before s).job.state = .idle := by
  unfold lluSample lluSensorLost liftSample
  (repeat' split) <;> simp [h]

@[simp] theorem takeSampleStep_idle {s : State} (h : s.job.state = .idle) (sample : Channels Reading) :
    (takeSampleStep sample s).job.state = .idle := by
  simp [takeSampleStep, h]

@[simp] theorem afterStep_idle {s : State} (h : s.job.state = .idle) (saturated : Bool) :
    (afterStep saturated s).job.state = .idle := by
  unfold afterStep travelFault
  (repeat' split) <;> simp [h]

@[simp] theorem judgeRest_idle {s : State} (h : s.job.state = .idle) : (judgeRest s).job.state = .idle := by
  unfold judgeRest travelFault
  dsimp only
  (repeat' split) <;> simp [h]

/-! ## What a self-test's running flag sees -/

@[simp] theorem testSample_running (s : State) : (testSample s).test.running = s.test.running := by
  unfold testSample
  dsimp only
  split <;> simp

@[simp] theorem takeSampleStep_running (sample : Channels Reading) (s : State) :
    (takeSampleStep sample s).test.running = s.test.running := by
  simp [takeSampleStep]

@[simp] theorem endTest_running (failure : Option FailureRecord) (s : State) : (endTest failure s).test.running = false := by
  simp [endTest]

@[simp] theorem stopTest_running (s : State) : (stopTest s).test.running = false := by
  unfold stopTest
  split <;> simp_all

/-! ## Every command keeps the table of a DESIGN job (R82) and the job of a self-test (R187) -/

/-- From `s` to `t` the table and the mode stand, and no self-test starts. -/
def TableKept (s t : State) : Prop :=
  t.params = s.params ∧ t.table = s.table ∧ (t.test.running = true → s.test.running = true)

/-- A change that keeps the table and does not take the job out of IDLE. -/
theorem TableHeld.kept {s t : State} (h : TableHeld s) (hk : TableKept s t) (hidle : s.job.state = .idle → t.job.state = .idle) :
    TableHeld t := by
  obtain ⟨htest, htable⟩ := h
  obtain ⟨hparams, hstands, hruns⟩ := hk
  refine ⟨fun hr => hidle (htest (hruns hr)), fun hj hm => ?_⟩
  rw [hstands]
  exact htable (fun hi => hj (hidle hi)) (hparams ▸ hm)

/-- A change that keeps the table and the job's state. -/
theorem TableHeld.stays {s t : State} (h : TableHeld s) (hk : TableKept s t) (hj : t.job.state = s.job.state) : TableHeld t :=
  h.kept hk hj.trans

/-- With the job IDLE nothing rests on the table or the self-test. -/
theorem tableHeld_of_idle {s : State} (h : s.job.state = .idle) : TableHeld s := ⟨fun _ => h, fun hj => absurd h hj⟩

/-- A guarded event holds the table when what it does holds it. -/
theorem ite_tableHeld {p : Prop} [Decidable p] {s t : State} (h : TableHeld s) (ht : TableHeld t) :
    TableHeld (if p then t else s) := by
  split
  · exact ht
  · exact h

/-- A request other than the readings is performed only without a self-test (R180). -/
theorem takeRequest_tableHeld {f : Frame} {fits : Bool} {owner : State → State × Answer} {s : State} (h : TableHeld s)
    (ho : ∀ t, t.test.running = false → TableHeld t → TableHeld (owner t).1) : TableHeld (takeRequest f fits false owner s) :=
  takeRequest_holds (fun _ _ ht => ht) h fun hr l ht => ho _ (by simpa using hr) ht

theorem readRequest_tableHeld {f : Frame} {fits : Bool} {a : State → Answer} {s : State} (h : TableHeld s) :
    TableHeld (readRequest f fits a s) := takeRequest_holds (fun _ _ ht => ht) h fun _ _ ht => ht

/-- While the table is LOADING no DESIGN job is under way, so the table may change (R82). -/
theorem TableHeld.setTable_of_loading {s : State} (h : TableHeld s) (hl : s.table.state = .loading) (t : DesignTable) :
    TableHeld (s.setTable t) := by
  obtain ⟨htest, htable⟩ := h
  refine ⟨htest, fun hj hm => ?_⟩
  have hv : s.table.state = .valid := htable hj hm
  rw [hl] at hv
  cases hv

theorem parametersOwner_tableHeld {body : List Byte} {s : State} (h : TableHeld s) : TableHeld (parametersOwner body s).1 := by
  unfold parametersOwner
  split
  · exact h
  · next hi =>
    dsimp only
    split <;> exact tableHeld_of_idle (by simpa using hi)

theorem loadOwner_tableHeld {body : List Byte} {s : State} (h : TableHeld s) : TableHeld (loadOwner body s).1 := by
  unfold loadOwner
  dsimp only
  split
  · exact h
  · exact h.kept (by simp [TableKept]) fun hi => by simp [hi]

theorem clearOwner_tableHeld {s : State} (h : TableHeld s) : TableHeld (clearOwner s).1 := by
  unfold clearOwner
  split <;> exact h

/-- A job starts in DESIGN mode on a VALID table alone (R27, R82). -/
theorem startOwner_tableHeld {s : State} (ht : s.test.running = false) (h : TableHeld s) : TableHeld (startOwner s).1 := by
  unfold startOwner
  split
  · exact h
  · split
    · exact h
    · split
      · exact h
      · split
        · exact h
        · next hv =>
          refine ⟨by simp [prepareJob, ht], fun _ hm => ?_⟩
          have hm : s.params.mode = .design := by simpa [prepareJob] using hm
          by_contra hn
          exact hv ⟨hm, by simpa [prepareJob] using hn⟩

theorem pauseOwner_tableHeld {s : State} (h : TableHeld s) : TableHeld (pauseOwner s).1 := by
  unfold pauseOwner
  split
  · exact h
  · next hs =>
    split <;> exact h.kept (by simp [TableKept, pauseNow]) fun hi => by simp [hi] at hs

@[simp] theorem resumePhase_keepsTable (s : State) :
    (resumePhase s).params = s.params ∧ (resumePhase s).table = s.table ∧ (resumePhase s).test = s.test := by
  unfold resumePhase
  (repeat' split) <;> simp

theorem resumeOwner_tableHeld {s : State} (h : TableHeld s) : TableHeld (resumeOwner s).1 := by
  unfold resumeOwner
  split
  · exact h
  · next hs => exact h.kept (by simp [TableKept]) fun hi => by simp [hi] at hs

theorem retryOwner_tableHeld {s : State} (h : TableHeld s) : TableHeld (retryOwner s).1 := by
  unfold retryOwner
  split
  · exact h
  · next hs =>
    split
    · exact h
    · split
      · exact h
      · split
        · exact h
        · exact h.kept (by simp [TableKept, leaveHalt]) fun hi => by simp [hi] at hs

theorem skipOwner_tableHeld {s : State} (h : TableHeld s) : TableHeld (skipOwner s).1 := by
  unfold skipOwner
  split
  · exact h
  · next hs =>
    split
    · exact h
    · split <;> exact h.kept (by simp [TableKept, leaveHalt, skipFaulted]) fun hi => by simp [hi] at hs

theorem abortOwner_tableHeld {s : State} (h : TableHeld s) : TableHeld (abortOwner s).1 := by
  unfold abortOwner
  split
  · exact h
  · exact tableHeld_of_idle (by simp [abortJob])

theorem parkAllOwner_tableHeld {s : State} (h : TableHeld s) : TableHeld (parkAllOwner s).1 := by
  unfold parkAllOwner
  split
  · exact h.stays (by simp [TableKept]) (by simp)
  · exact h

/-- The table is opened in IDLE or in LOCAL mode alone (R74). -/
theorem openOwner_tableHeld {body : List Byte} {s : State} (h : TableHeld s) : TableHeld (openOwner body s).1 := by
  obtain ⟨htest, -⟩ := id h
  unfold openOwner
  dsimp only
  split
  · exact h
  · next hfree =>
    split
    · exact h
    · refine ⟨htest, fun hj hm => absurd ⟨hj, ?_⟩ hfree⟩
      rw [show s.params.mode = .design from hm]
      decide

theorem segmentOwner_tableHeld {body : List Byte} {s : State} (h : TableHeld s) : TableHeld (segmentOwner body s).1 := by
  unfold segmentOwner
  dsimp only
  split
  · exact h
  · next hr _ => exact h.setTable_of_loading (DesignTable.segmentRefusal_none hr).1 _
  · exact h

theorem closeOwner_tableHeld {s : State} (h : TableHeld s) : TableHeld (closeOwner s).1 := by
  unfold closeOwner
  split
  · exact h
  · next hl => exact h.setTable_of_loading (not_not.1 hl) _

theorem selfTestOwner_tableHeld {body : List Byte} {s : State} (h : TableHeld s) : TableHeld (selfTestOwner body s).1 := by
  unfold selfTestOwner
  dsimp only
  split
  · exact h
  · next hi =>
    split
    · exact h
    · split
      · exact h
      · exact tableHeld_of_idle (by simpa using hi)

theorem restartOwner_tableHeld {s : State} (h : TableHeld s) : TableHeld (restartOwner s).1 := by
  unfold restartOwner
  split <;> exact h

/-- The next item of a self-test may empty the table, but the job is IDLE (R187, R190). -/
theorem selfTestItem_tableHeld {s : State} (h : TableHeld s) :
    TableHeld (if s.test.running ∧ s.test.timer.isSome then conclude (judgeItem s) else s) := by
  obtain ⟨htest, -⟩ := id h
  split
  · next hr => exact tableHeld_of_idle (by simpa using htest hr.1)
  · exact h

/-- Whatever a command answers, a DESIGN job has its VALID table and a self-test its IDLE job when they had before. -/
theorem exec_tableHeld (c : Instr) {s t : State} (h : TableHeld s) (ht : exec c s = .next t) : TableHeld t := by
  cases c with
  | powerOn park clampsOpen stopLine => cases ht; exact tableHeld_of_idle (by simp [Job.atPowerOn])
  | identify tag body => cases ht; exact readRequest_tableHeld h
  | readStatus tag body => cases ht; exact readRequest_tableHeld h
  | setParameters tag body => cases ht; exact takeRequest_tableHeld h fun _ _ => parametersOwner_tableHeld
  | readParameters tag body => cases ht; exact readRequest_tableHeld h
  | loadEntry tag body => cases ht; exact takeRequest_tableHeld h fun _ _ => loadOwner_tableHeld
  | collectResults tag body => cases ht; exact takeRequest_tableHeld h fun _ _ ht => ht
  | readQueue tag body => cases ht; exact readRequest_tableHeld h
  | clearQueue tag body => cases ht; exact takeRequest_tableHeld h fun _ _ => clearOwner_tableHeld
  | startJob tag body => cases ht; exact takeRequest_tableHeld h fun _ => startOwner_tableHeld
  | pauseJob tag body => cases ht; exact takeRequest_tableHeld h fun _ _ => pauseOwner_tableHeld
  | resumeJob tag body => cases ht; exact takeRequest_tableHeld h fun _ _ => resumeOwner_tableHeld
  | retryEntry tag body => cases ht; exact takeRequest_tableHeld h fun _ _ => retryOwner_tableHeld
  | skipEntry tag body => cases ht; exact takeRequest_tableHeld h fun _ _ => skipOwner_tableHeld
  | abortJob tag body => cases ht; exact takeRequest_tableHeld h fun _ _ => abortOwner_tableHeld
  | parkAll tag body => cases ht; exact takeRequest_tableHeld h fun _ _ => parkAllOwner_tableHeld
  | openTable tag body => cases ht; exact takeRequest_tableHeld h fun _ _ => openOwner_tableHeld
  | tableSegment tag body => cases ht; exact takeRequest_tableHeld h fun _ _ => segmentOwner_tableHeld
  | closeTable tag body => cases ht; exact takeRequest_tableHeld h fun _ _ => closeOwner_tableHeld
  | readTable tag body => cases ht; exact readRequest_tableHeld h
  | readMeasurement tag body => cases ht; exact readRequest_tableHeld h
  | readTrail tag body => cases ht; exact readRequest_tableHeld h
  | selfTest tag body => cases ht; exact takeRequest_tableHeld h fun _ _ => selfTestOwner_tableHeld
  | restart tag body => cases ht; exact takeRequest_tableHeld h fun _ _ => restartOwner_tableHeld
  | unknownKindRequest kind tag body => cases ht; exact ite_tableHeld h (h.stays (by simp [TableKept]) (by simp))
  | frameReceived b => cases ht; exact ite_tableHeld h h
  | interByteTimeout => cases ht; exact h
  | frameSent => cases ht; exact h
  | restartEffect => cases ht; exact ite_tableHeld h (tableHeld_of_idle (by simp [restartBlocks, Job.atPowerOn]))
  | sampleArrival sample => cases ht; exact h.kept (by simp [TableKept]) fun hi => by simp [hi]
  | sampleTimerExpiry => cases ht; exact ite_tableHeld h (h.kept (by simp [TableKept]) fun hi => by simp [hi])
  | odometerStep mm => cases ht; exact h.kept (by simp [TableKept]) fun hi => by simp [hi]
  | positionSettleExpiry => cases ht; exact ite_tableHeld h (h.kept (by simp [TableKept]) fun hi => by simp [hi])
  | stopLineAssertion =>
    cases ht
    refine ite_tableHeld (h.kept ?_ fun hi => ?_) h
    · simp [TableKept, assertStopLine, setStopLine]
    · simp [assertStopLine, setStopLine, hi]
  | stopLineRelease =>
    cases ht
    refine ite_tableHeld h (h.stays ?_ ?_)
    · simp [TableKept, releaseStopLine, setStopLine]
    · simp [releaseStopLine, setStopLine]
  | unitGrant u => cases ht; exact h.stays (by simp [TableKept]) (by simp)
  | lluGrant => cases ht; exact h.stays (by simp [TableKept]) (by simp)
  | shiftReached u n => cases ht; exact ite_tableHeld h (h.stays (by simp [TableKept]) (by simp))
  | depthReached u n => cases ht; exact ite_tableHeld h (h.stays (by simp [TableKept]) (by simp))
  | tinesOpen u n => cases ht; exact ite_tableHeld h (h.stays (by simp [TableKept]) (by simp))
  | atMid u n => cases ht; exact ite_tableHeld h (h.stays (by simp [TableKept]) (by simp))
  | atPark u n => cases ht; exact ite_tableHeld h (h.kept (by simp [TableKept]) fun hi => by simp [hi])
  | shiftTimeout u => cases ht; exact ite_tableHeld h (h.kept (by simp [TableKept]) fun hi => by simp [hi])
  | insertionTimerExpiry u => cases ht; exact ite_tableHeld h (h.kept (by simp [TableKept]) fun hi => by simp [hi])
  | squeezeTimerExpiry u => cases ht; exact ite_tableHeld h (h.stays (by simp [TableKept]) (by simp))
  | openTimeout u => cases ht; exact ite_tableHeld h (h.kept (by simp [TableKept]) fun hi => by simp [hi])
  | raiseMidTimeout u => cases ht; exact ite_tableHeld h (h.kept (by simp [TableKept]) fun hi => by simp [hi])
  | raiseParkTimeout u => cases ht; exact ite_tableHeld h (h.kept (by simp [TableKept]) fun hi => by simp [hi])
  | clamped n => cases ht; exact ite_tableHeld h (h.kept (by simp [TableKept]) fun hi => by simp [hi])
  | forceLimit n => cases ht; exact ite_tableHeld h (h.kept (by simp [TableKept]) fun hi => by simp [hi])
  | unclamped n => cases ht; exact ite_tableHeld h (h.stays (by simp [TableKept]) (by simp))
  | clampTimeout => cases ht; exact ite_tableHeld h (h.kept (by simp [TableKept]) fun hi => by simp [hi])
  | liftTimerExpiry => cases ht; exact ite_tableHeld h (h.kept (by simp [TableKept]) fun hi => by simp [hi])
  | unclampTimeout => cases ht; exact ite_tableHeld h (h.kept (by simp [TableKept]) fun hi => by simp [hi])
  | joinHoldExpiry => cases ht; exact ite_tableHeld h (h.stays (by simp [TableKept]) (by simp))
  | lluSettleExpiry => cases ht; exact ite_tableHeld h (h.stays (by simp [TableKept]) (by simp))
  | valveReadback valve position => cases ht; exact ite_tableHeld h h
  | selfTestItemExpiry => cases ht; exact selfTestItem_tableHeld h
  | memoryMismatch wordRead wordWritten => cases ht; exact ite_tableHeld h (h.stays (by simp [TableKept]) (by simp))
  | byteReceived b => cases ht; exact h

end Sys2Proof.Machine

section
open Sys2Proof Sys2Proof.Machine

/-- Settles O37: a command either keeps the table, the mode and an IDLE job, or acts with the job IDLE, in LOCAL mode or on a table
that is LOADING; START JOB alone leaves IDLE, on a VALID table. -/
theorem stepKeepsTableForTheJob : Obligations.StepKeepsTableForTheJob := by
  unfold Obligations.StepKeepsTableForTheJob
  intro s t h ht
  unfold step at ht
  split at ht
  · cases ht; exact h
  · next c rest _ => exact exec_tableHeld c (s := { s with pending := rest }) h ht

end

namespace Sys2Proof.Machine

/-! ## The lookup of the Design Table (R80, R81) -/

/-- The position lies in the segment: at or above its start and below its end (R80). -/
def Segment.Holds (g : Segment) (x : Int) : Prop := g.start ≤ x ∧ x < g.stop

theorem DesignTable.segmentAt_eq_none {t : DesignTable} {x : Int} :
    t.segmentAt x = none ↔ ¬ ∃ g ∈ t.segments, g.Holds x := by
  simp [DesignTable.segmentAt, List.find?_eq_none, Segment.Holds]

theorem DesignTable.segmentAt_eq_some {t : DesignTable} {x : Int} {g : Segment} (h : t.segmentAt x = some g) :
    g ∈ t.segments ∧ g.Holds x :=
  ⟨List.mem_of_find?_eq_some h, by simpa [Segment.Holds] using List.find?_some h⟩

/-- Segments laid end to end, none of them empty (R73, R75). -/
def Laid (l : List Segment) : Prop := l.IsChain (fun g h => h.start = g.stop) ∧ ∀ g ∈ l, 0 < g.length

theorem DesignTable.Sound.laid {t : DesignTable} (h : t.Sound) : Laid t.segments := by
  obtain ⟨-, -, -, hseg, hmeet, -⟩ := h
  refine ⟨List.isChain_iff_getElem.2 fun i hi => ?_, fun g hg => ?_⟩
  · exact hmeet i _ _ (List.getElem?_eq_getElem _) (List.getElem?_eq_getElem hi)
  · obtain ⟨i, hi⟩ := List.mem_iff_getElem?.1 hg
    obtain ⟨-, -, -, hlength, -⟩ := hseg i g hi
    omega

/-- A segment that is not empty holds its own start. -/
theorem Segment.holds_start {g : Segment} (h : 0 < g.length) : g.Holds g.start := by
  unfold Segment.Holds Segment.stop
  omega

/-- Laid segments hold every position from the first start up to, but not including, the last end. -/
theorem Laid.holds_iff {g : Segment} {rest : List Segment} (h : Laid (g :: rest)) (x : Int) :
    (∃ y ∈ g :: rest, y.Holds x) ↔ g.start ≤ x ∧ x < ((g :: rest).getLast (List.cons_ne_nil g rest)).stop := by
  induction rest generalizing g x with
  | nil => simp [Segment.Holds]
  | cons b rest ih =>
    obtain ⟨hchain, hlength⟩ := h
    obtain ⟨hmeet, hchain⟩ := List.isChain_cons_cons.1 hchain
    have hrest : Laid (b :: rest) := ⟨hchain, fun y hy => hlength y (List.mem_cons_of_mem g hy)⟩
    obtain ⟨-, hend⟩ := (ih hrest b.start).1 ⟨b, List.mem_cons_self, Segment.holds_start (hrest.2 b List.mem_cons_self)⟩
    have hg : g.start < g.stop := (Segment.holds_start (hlength g List.mem_cons_self)).2
    rw [List.exists_mem_cons_iff, ih hrest x, List.getLast_cons (List.cons_ne_nil b rest)]
    unfold Segment.Holds
    omega

/-- No position lies in two laid segments. -/
theorem Laid.holds_unique {l : List Segment} (h : Laid l) {x : Int} {y z : Segment} (hy : y ∈ l) (hz : z ∈ l) (hxy : y.Holds x)
    (hxz : z.Holds x) : y = z := by
  induction l with
  | nil => cases hy
  | cons g rest ih =>
    obtain ⟨hchain, hlength⟩ := h
    have hrest : Laid rest := ⟨hchain.tail, fun y hy => hlength y (List.mem_cons_of_mem g hy)⟩
    have apart {v : Segment} (hv : v ∈ rest) (hxv : v.Holds x) : ¬ g.Holds x := by
      cases rest with
      | nil => cases hv
      | cons b rest =>
        have hmeet := (List.isChain_cons_cons.1 hchain).1
        have := ((hrest.holds_iff x).1 ⟨v, hv, hxv⟩).1
        unfold Segment.Holds
        omega
    rcases List.mem_cons.1 hy with rfl | hyrest
    · rcases List.mem_cons.1 hz with rfl | hzrest
      · rfl
      · exact absurd hxy (apart hzrest hxz)
    · rcases List.mem_cons.1 hz with rfl | hzrest
      · exact absurd hxz (apart hyrest hxy)
      · exact ih hrest hyrest hzrest

/-- Some segment of a sound table holds the position exactly from the first start up to the last end (R49, R80). -/
theorem DesignTable.Sound.holds_iff {t : DesignTable} (h : t.Sound) (x : Int) : (∃ g ∈ t.segments, g.Holds x) ↔
    ∃ first last, t.segments.head? = some first ∧ t.segments.getLast? = some last ∧ first.start ≤ x ∧
      x < last.start + last.length := by
  have hlaid := h.laid
  cases hs : t.segments with
  | nil => simp
  | cons g rest =>
    rw [Laid.holds_iff (hs ▸ hlaid) x, List.head?_cons, List.getLast?_eq_some_getLast (List.cons_ne_nil g rest)]
    exact ⟨fun hx => ⟨_, _, rfl, rfl, hx⟩, by rintro ⟨_, _, ⟨rfl⟩, ⟨rfl⟩, hx⟩; exact hx⟩

/-! ### The interpolation (R45, R81) -/

theorem divRound_neg {b : Int} (hb : 0 < b) (a : Int) : divRound (-a) b = -divRound a b := by
  rcases lt_trichotomy a 0 with ha | rfl | ha
  · rw [divRound_of_neg ha, Int.neg_neg]
  · rw [Int.neg_zero, divRound_zero hb, Int.neg_zero]
  · rw [divRound_of_neg (by omega), Int.neg_neg]

/-- A part of a rise that is not negative, rounded, lies within the rise. -/
theorem divRound_part_le {w d b : Int} (hb : 0 < b) (hw : 0 ≤ w) (hd : 0 ≤ d) (hdb : d ≤ b) :
    0 ≤ divRound (w * d) b ∧ divRound (w * d) b ≤ w := by
  obtain ⟨hsign, -, hhigh⟩ := divRound_of_nonneg (Int.mul_nonneg hw hd) hb
  refine ⟨hsign, ?_⟩
  have hpart : w * d ≤ w * b := Int.mul_le_mul_of_nonneg_left hdb hw
  by_contra hlt
  have : (w + 1) * b ≤ divRound (w * d) b * b := Int.mul_le_mul_of_nonneg_right (by omega) (by omega)
  rw [Int.add_mul, Int.one_mul] at this
  omega

/-- Within its segment an interpolated value lies between the end values. -/
theorem Segment.interpolate_between {g : Segment} {x : Int} (hx : g.Holds x) (a b : Int) :
    min a b ≤ g.interpolate a b x ∧ g.interpolate a b x ≤ max a b := by
  obtain ⟨hlow, hhigh⟩ := hx
  unfold Segment.stop at hhigh
  unfold Segment.interpolate
  rcases Int.le_total a b with hab | hab
  · obtain ⟨hsign, hle⟩ := divRound_part_le (w := b - a) (d := x - g.start) (b := g.length)
      (by omega) (by omega) (by omega) (by omega)
    omega
  · obtain ⟨hsign, hle⟩ := divRound_part_le (w := a - b) (d := x - g.start) (b := g.length)
      (by omega) (by omega) (by omega) (by omega)
    rw [show (b - a) * (x - g.start) = -((a - b) * (x - g.start)) by ring, divRound_neg (by omega)]
    omega

/-- An interpolated value is the nearest integer to the straight line between the end values. -/
theorem Segment.interpolate_nearest {g : Segment} (hg : 0 < g.length) (a b x : Int) :
    2 * ((g.interpolate a b x - a) * g.length - (b - a) * (x - g.start)).natAbs ≤ g.length.natAbs := by
  obtain ⟨hnear, -⟩ := divisionRoundsHalfAway ((b - a) * (x - g.start)) g.length hg
  rw [Segment.interpolate, add_sub_cancel_left]
  omega

theorem Segment.interpolate_start {g : Segment} (hg : 0 < g.length) (a b : Int) : g.interpolate a b g.start = a := by
  rw [Segment.interpolate, Int.sub_self, Int.mul_zero, divRound_zero hg, Int.add_zero]

end Sys2Proof.Machine

section
open Sys2Proof Sys2Proof.Machine

/-- Settles O35: laid end to end, the segments hold each position of the table once, and the value is that of the one segment. -/
theorem lookupInterpolatesInItsSegment : Obligations.LookupInterpolatesInItsSegment := by
  unfold Obligations.LookupInterpolatesInItsSegment
  intro t x h
  have hlaid := h.laid
  refine ⟨fun hv => if_neg hv, fun hv => ?_, fun curv cant hl => ?_⟩
  · rw [DesignTable.lookup, if_pos hv, Option.map_eq_none_iff, DesignTable.segmentAt_eq_none, h.holds_iff]
  · unfold DesignTable.lookup at hl
    split at hl
    · obtain ⟨g, hat, hvalues⟩ := Option.map_eq_some_iff.1 hl
      obtain ⟨rfl, rfl⟩ := Prod.mk.inj hvalues
      obtain ⟨hmem, hx⟩ := DesignTable.segmentAt_eq_some hat
      have hg := hlaid.2 g hmem
      obtain ⟨hlowK, hhighK⟩ := Segment.interpolate_between hx g.k0 g.k1
      obtain ⟨hlowC, hhighC⟩ := Segment.interpolate_between hx g.cant0 g.cant1
      refine ⟨g, hmem, hx.1, hx.2, fun y hy hlow hhigh => hlaid.holds_unique hy hmem ⟨hlow, hhigh⟩ hx,
        Segment.interpolate_nearest hg .., Segment.interpolate_nearest hg .., hlowK, hhighK, hlowC, hhighC, ?_⟩
      rintro rfl
      exact ⟨Segment.interpolate_start hg .., Segment.interpolate_start hg ..⟩
    · cases hl

end

namespace Sys2Proof.Machine

/-! ## Loading the Design Table (R73 to R78) -/

/-- The taken frame of a request that changes nothing but the table. -/
theorem takeRequest_tables {f : Frame} {owner : State → State × Answer} {s : State} {d : DesignTable} {a : Answer}
    (h : Takeable s f) (hr : s.test.running = false)
    (ho : owner (s.setLink s.link.taken) = ((s.setLink s.link.taken).setTable d, a)) :
    ∃ t, Host.Outcome.next (φ := Fault) (ρ := Refusal) (takeRequest f true false owner s) = .next t ∧
      t = { s with link := t.link, table := d } ∧ Answered s t f a [] := by
  refine ⟨_, rfl, ?_⟩
  rw [takeRequest_owner h (by simp [hr]), ho]
  exact ⟨rfl, answer_answered rfl⟩

/-! ### OPEN TABLE (R74) -/

theorem openOwner_inUse {body : List Byte} {s : State} (hj : s.job.state ≠ .idle) (hm : s.params.mode = .design) :
    openOwner body s = (s, .refused .tableInUse 0x0010 (jobCode s.job.state) none) :=
  if_pos ⟨hj, by simp [hm]⟩

theorem openOwner_free {n lo hi : Byte} {s : State} (h : s.job.state = .idle ∨ s.params.mode = .localMode) :
    openOwner [n, lo, hi] s = if 1 ≤ n.toNat ∧ n.toNat ≤ 128 then
        (s.setTable ⟨.loading, some (n.toNat, wordOf lo hi), [], 0⟩, .tableOpened n.toNat)
      else (s, .refused .tableFull 0x0010 128 none) := by
  have hfree : ¬ (s.job.state ≠ .idle ∧ s.params.mode ≠ .localMode) := by tauto
  have hcount : byteAt [n, lo, hi] 4 = n.toNat := rfl
  simp only [openOwner, if_neg hfree, hcount]
  split_ifs
  · omega
  · rfl
  · rfl
  · omega

/-! ### TABLE SEGMENT (R73, R75, R76) -/

theorem kindOfCode_isNone (n : Nat) : (kindOfCode n).isNone = true ↔ n > 2 := by
  match n with
  | 0 | 1 | 2 => decide
  | n + 3 => simp [kindOfCode]

theorem within_iff {lo hi x : Int} : within lo hi x = true ↔ lo ≤ x ∧ x ≤ hi := by simp [within]

/-- The kind's own rule, told by the code sent. -/
theorem OfferedSegment.ruleHolds_iff {g : OfferedSegment} (h : ¬ g.kind > 2) : g.ruleHolds = true ↔
    (g.kind = 0 → g.k0 = 0 ∧ g.k1 = 0 ∧ g.cant0 = g.cant1) ∧
    (g.kind = 1 → g.k0 = g.k1 ∧ g.k0 ≠ 0 ∧ g.cant0 = g.cant1) ∧ (g.kind = 2 → g.k0 ≠ g.k1) := by
  unfold OfferedSegment.ruleHolds
  rcases (by omega : g.kind = 0 ∨ g.kind = 1 ∨ g.kind = 2) with hk | hk | hk <;> simp [hk, kindOfCode, and_assoc]

/-- The six tests of a kind in their order, whatever is made of the first that fails (R73). -/
theorem OfferedSegment.apply_misfit {α : Type} (f : Option Nat → α) (g : OfferedSegment) : f g.misfit =
    if g.kind > 2 then f (some 1)
    else if ¬ (0 ≤ g.start ∧ g.start ≤ 4000000) then f (some 2)
    else if ¬ (1000 ≤ g.length ∧ g.length ≤ 400000) then f (some 3)
    else if ¬ (-10000 ≤ g.k0 ∧ g.k0 ≤ 10000 ∧ -10000 ≤ g.k1 ∧ g.k1 ≤ 10000) then f (some 4)
    else if ¬ (-1800 ≤ g.cant0 ∧ g.cant0 ≤ 1800 ∧ -1800 ≤ g.cant1 ∧ g.cant1 ≤ 1800) then f (some 5)
    else if ¬ ((g.kind = 0 → g.k0 = 0 ∧ g.k1 = 0 ∧ g.cant0 = g.cant1) ∧
        (g.kind = 1 → g.k0 = g.k1 ∧ g.k0 ≠ 0 ∧ g.cant0 = g.cant1) ∧ (g.kind = 2 → g.k0 ≠ g.k1)) then f (some 6)
    else f none := by
  by_cases hk : g.kind > 2
  · rw [OfferedSegment.misfit, if_pos ((kindOfCode_isNone _).2 hk), if_pos hk]
  · simp only [OfferedSegment.misfit, kindOfCode_isNone, Bool.not_eq_true', ← Bool.not_eq_true, Bool.and_eq_true, within_iff,
      OfferedSegment.ruleHolds_iff hk, and_assoc, apply_ite f]

/-- A segment whose record fits passes the six tests. -/
theorem OfferedSegment.misfit_of_fits {g : OfferedSegment} {x : Segment} (hx : g.stored = some x) (hf : x.Fits) :
    g.misfit = none := by
  obtain ⟨k, hk, rfl⟩ := Option.map_eq_some_iff.1 hx
  obtain ⟨h1, h2, h3, h4, h5, h6, h7, h8, h9, h10, h11, h12, hrule⟩ := hf
  have hr : g.ruleHolds = true := by
    unfold OfferedSegment.ruleHolds
    rw [hk]
    cases k with
    | straight => simpa [and_assoc] using hrule
    | curve => simpa [and_assoc] using hrule
    | transition => simpa using hrule
  simp_all [OfferedSegment.misfit, within]

/-- A segment that follows the stored ones meets the one before it, if there is one (R75). -/
theorem DesignTable.meets_iff {t : DesignTable} {g : OfferedSegment} (hi : g.index = t.segments.length) : t.meets g = true ↔
    ∀ prev, 0 < g.index → t.segments[g.index - 1]? = some prev → g.start = prev.start + prev.length := by
  unfold DesignTable.meets
  by_cases hz : g.index = 0
  · simp [hz]
  · obtain ⟨prev, hprev⟩ : ∃ prev, t.segments[g.index - 1]? = some prev :=
      ⟨_, List.getElem?_eq_getElem (show g.index - 1 < t.segments.length by omega)⟩
    have hstop : prev.start + prev.length = prev.stop := rfl
    simp [hz, hprev, hstop, Nat.pos_of_ne_zero hz]

/-- The expected segment of a LOADING table is refused by the first test of its kind that fails (R75). -/
theorem DesignTable.segmentRefusal_misfit {t : DesignTable} {g : OfferedSegment} {detail : Nat} (hs : t.state = .loading)
    (hc : ¬ t.count ≤ g.index) (hi : g.index = t.segments.length) (hm : g.misfit = some detail) :
    t.segmentRefusal g = some (.tableKind, detail) := by
  rw [DesignTable.segmentRefusal, if_neg (not_not.2 hs), if_neg hc, if_neg (show ¬ g.index ≠ t.received from not_not.2 hi), hm]

/-- The expected segment of a LOADING table that fits its kind is judged by the segment before it (R75). -/
theorem DesignTable.segmentRefusal_fitting {t : DesignTable} {g : OfferedSegment} (hs : t.state = .loading)
    (hc : ¬ t.count ≤ g.index) (hi : g.index = t.segments.length) (hm : g.misfit = none) :
    t.segmentRefusal g = if t.meets g then none else some (.tableGap, g.index - 1) := by
  rw [DesignTable.segmentRefusal, if_neg (not_not.2 hs), if_neg hc, if_neg (show ¬ g.index ≠ t.received from not_not.2 hi), hm]

/-- What the expected segment is refused with, by the first test of its kind that fails: TABLE_KIND, or TABLE_GAP when all pass and it
does not start at the end of the segment before it (R73, R75). -/
def OfferedSegment.RefusedWith (g : OfferedSegment) (t : DesignTable) (reason : Reason) (detail : Nat) : Option Nat → Prop
  | some test => reason = .tableKind ∧ detail = test
  | none => ∃ prev, 0 < g.index ∧ t.segments[g.index - 1]? = some prev ∧ g.start ≠ prev.start + prev.length ∧
      reason = .tableGap ∧ detail = g.index - 1

theorem DesignTable.segmentRefusal_of_refusedWith {t : DesignTable} {g : OfferedSegment} {reason : Reason} {detail : Nat}
    (hs : t.state = .loading) (hc : ¬ t.count ≤ g.index) (hi : g.index = t.segments.length)
    (h : g.RefusedWith t reason detail g.misfit) : t.segmentRefusal g = some (reason, detail) := by
  cases hm : g.misfit with
  | some test =>
    rw [hm] at h
    obtain ⟨rfl, rfl⟩ := h
    exact DesignTable.segmentRefusal_misfit hs hc hi hm
  | none =>
    rw [hm] at h
    obtain ⟨prev, hpos, hprev, hgap, rfl, rfl⟩ := h
    rw [DesignTable.segmentRefusal_fitting hs hc hi hm, if_neg]
    exact fun hmeets => hgap ((DesignTable.meets_iff hi).1 hmeets prev hpos hprev)

theorem segmentOwner_refused {body : List Byte} {s : State} {reason : Reason} {detail : Nat}
    (h : s.table.segmentRefusal (decodeSegment body) = some (reason, detail)) :
    segmentOwner body s = (s, .refused reason 0x0011 detail none) := by
  simp [segmentOwner, h, refuse]

theorem segmentOwner_stores {body : List Byte} {s : State} {x : Segment}
    (h : s.table.segmentRefusal (decodeSegment body) = none) (hx : (decodeSegment body).stored = some x) :
    segmentOwner body s =
      (s.setTable (s.table.store x), .segmentStored (s.table.segments.length + 1) (s.table.store x).check) := by
  simp [segmentOwner, h, hx, DesignTable.received, DesignTable.store]

theorem exec_tableSegment {tag : Word} {body : List Byte} {s : State} (h : body.length = 18) : exec (.tableSegment tag body) s =
    .next (takeRequest ⟨0x0011, tag, body⟩ true false (segmentOwner body) s) := by
  show execTableSegment tag body s = _
  rw [execTableSegment, h]
  rfl

/-! ### CLOSE TABLE (R78) -/

theorem closeOwner_notLoading {s : State} (h : s.table.state ≠ .loading) :
    closeOwner s = (s, .refused .wrongState 0x0012 (tableCode s.table.state) none) := if_pos h

theorem closeOwner_loading {s : State} (h : s.table.state = .loading) :
    closeOwner s = (s.setTable s.table.closed, .tableClosed s.table.outcome s.table.segments.length s.table.check) :=
  if_neg (not_not.2 h)

/-- The count is judged before the check (R78). -/
theorem DesignTable.outcome_eq {t : DesignTable} {n : Nat} {check : Word} (h : t.declared = some (n, check)) : t.outcome =
    if t.segments.length ≠ n then .count else if t.check ≠ check then .check else .valid := by
  simp [DesignTable.outcome, DesignTable.received, DesignTable.count, h, eq_comm]

end Sys2Proof.Machine

section
open Sys2Proof Sys2Proof.Machine

/-- Settles O36: each of the three requests by what its owner does with the table. -/
theorem tableLoadsSegmentBySegment : Obligations.TableLoadsSegmentBySegment := by
  unfold Obligations.TableLoadsSegmentBySegment
  intro tag s hr
  have hnotest : s.test.running = true → false = true := by simp [hr]
  refine ⟨fun n lo hi h => ⟨?_, fun hfree => ⟨fun hn => ?_, fun hn => ?_⟩⟩, fun body g hbody hg h => ⟨?_, ?_⟩,
    fun h => ⟨fun hs => ?_, fun n check hs hd => ?_⟩⟩
  · rintro ⟨hj, hm⟩
    exact takeRequest_answers h hnotest (openOwner_inUse hj hm)
  · exact takeRequest_tables h hr ((openOwner_free (s := s.setLink s.link.taken) hfree).trans (if_pos hn))
  · exact takeRequest_answers h hnotest ((openOwner_free (s := s.setLink s.link.taken) hfree).trans (if_neg hn))
  · intro reason detail hwhy
    rw [exec_tableSegment hbody]
    refine takeRequest_answers h hnotest (segmentOwner_refused ?_)
    show s.table.segmentRefusal (decodeSegment body) = some (reason, detail)
    rw [← hg]
    by_cases hs : s.table.state ≠ .loading
    · rw [if_pos hs] at hwhy
      obtain ⟨rfl, rfl⟩ := hwhy
      exact if_pos hs
    rw [if_neg hs] at hwhy
    by_cases hc : s.table.count ≤ g.index
    · rw [if_pos hc] at hwhy
      obtain ⟨rfl, rfl⟩ := hwhy
      exact (if_neg hs).trans (if_pos hc)
    rw [if_neg hc] at hwhy
    by_cases hi : g.index ≠ s.table.segments.length
    · rw [if_pos hi] at hwhy
      obtain ⟨rfl, rfl⟩ := hwhy
      exact (if_neg hs).trans ((if_neg hc).trans (if_pos hi))
    rw [if_neg hi] at hwhy
    refine DesignTable.segmentRefusal_of_refusedWith (not_not.1 hs) hc (not_not.1 hi) ?_
    rw [OfferedSegment.apply_misfit (g.RefusedWith s.table reason detail)]
    exact hwhy
  · intro x hx hf hs hi hc hmeets
    have hrefusal : s.table.segmentRefusal g = none := by
      rw [DesignTable.segmentRefusal_fitting hs (Nat.not_le.2 hc) hi (OfferedSegment.misfit_of_fits hx hf),
        if_pos ((DesignTable.meets_iff hi).2 hmeets)]
    obtain ⟨t, he, ht, ha⟩ := takeRequest_tables h hr
      (segmentOwner_stores (s := s.setLink s.link.taken) (hg ▸ hrefusal) (hg ▸ hx))
    have htable : t.table = s.table.store x := congrArg State.table ht
    refine ⟨t, (exec_tableSegment hbody).trans he, ht, ?_⟩
    rw [htable, hi]
    exact ha
  · exact takeRequest_answers h hnotest (closeOwner_notLoading hs)
  · obtain ⟨t, he, ht, ha⟩ := takeRequest_tables h hr (closeOwner_loading (s := s.setLink s.link.taken) hs)
    exact ⟨t, _, he, DesignTable.outcome_eq hd, ht, ha⟩

end

namespace Sys2Proof.Machine

/-! ## The append to the Residual Trail (R95) -/

/-- The records that an append at the position leaves: those that stand before it (R95). -/
def Trail.before (t : Trail) (p : Int) : List TrailRecord := t.records.filter (fun x => decide (x.position < p))

theorem Trail.mem_before {t : Trail} {p : Int} {x : TrailRecord} : x ∈ t.before p ↔ x ∈ t.records ∧ x.position < p := by
  simp [Trail.before]

/-- The records left by an append that has room for one more: with 32 of them the oldest goes (R95). -/
def Trail.spared (t : Trail) (p : Int) : List TrailRecord :=
  if (t.before p).length + 1 = 33 then (t.before p).drop 1 else t.before p

theorem Trail.spared_sublist (t : Trail) (p : Int) : (t.spared p).Sublist (t.before p) := by
  unfold Trail.spared
  split
  · exact List.drop_sublist 1 _
  · exact List.Sublist.refl _

theorem Trail.Sound.before_length {t : Trail} (h : t.Sound) (p : Int) : (t.before p).length ≤ 32 :=
  (List.length_filter_le _ _).trans h.1

theorem Trail.Sound.spared_length {t : Trail} (h : t.Sound) (p : Int) : (t.spared p).length ≤ 31 := by
  have hlength := h.before_length p
  unfold Trail.spared
  split
  · rw [List.length_drop]
    omega
  · omega

/-- An append places its record after the records it spares, and counts itself. -/
theorem Trail.Sound.append_eq {t : Trail} (h : t.Sound) (r : TrailRecord) :
    t.append r = ⟨t.spared r.position ++ [r], (t.count + 1) % 65536⟩ := by
  have hlength := h.before_length r.position
  have hdef : t.append r = ⟨if 32 < (t.before r.position ++ [r]).length then (t.before r.position ++ [r]).drop 1
    else t.before r.position ++ [r], (t.count + 1) % 65536⟩ := rfl
  rw [hdef, Trail.spared, List.length_append, List.length_singleton]
  by_cases hfull : (t.before r.position).length + 1 = 33
  · rw [if_pos hfull, if_pos (by omega), List.drop_append_of_le_length (by omega)]
  · rw [if_neg hfull, if_neg (by omega)]

end Sys2Proof.Machine

section
open Sys2Proof Sys2Proof.Machine

/-- Settles O38: what an append spares is a part of the records before the new position, in their order. -/
theorem trailAppendKeepsOrder : Obligations.TrailAppendKeepsOrder := by
  unfold Obligations.TrailAppendKeepsOrder
  intro t r kept h hkept
  obtain rfl : kept = t.before r.position := hkept
  have hlength := h.spared_length r.position
  have hsub := t.spared_sublist r.position
  have hearlier : ∀ x ∈ t.spared r.position, x.position < r.position := fun x hx => (Trail.mem_before.1 (hsub.subset hx)).2
  rw [h.append_eq r]
  obtain ⟨hlen, hcount, hsorted, -⟩ := h
  refine ⟨fun hroom => ?_, fun hfull => ?_, fun hfull => ?_, ?_, ?_, fun x _ hbeyond hx => ?_, ?_, ?_⟩
  · rw [Trail.spared, if_neg hroom]
  · rw [Trail.spared, if_pos hfull]
  · have hlong : t.records.length ≤ (t.before r.position).length := by omega
    have hall : t.before r.position = t.records := List.filter_sublist.eq_of_length_le hlong
    refine ⟨hall, ?_⟩
    rw [hall] at hfull
    omega
  · show (t.count + 1) % 65536 = _
    split <;> omega
  · refine List.pairwise_append.2 ⟨hsorted.sublist (hsub.trans List.filter_sublist), List.pairwise_singleton _ _, fun x hx y hy => ?_⟩
    rw [List.mem_singleton.1 hy]
    exact hearlier x hx
  · rcases List.mem_append.1 hx with hspared | hnew
    · exact absurd (hearlier x hspared) (by omega)
    · exact List.mem_singleton.1 hnew
  · exact List.getLast?_concat
  · rw [List.length_append, List.length_singleton]
    omega

end

namespace Sys2Proof.Machine

/-! ## The questions to the Residual Trail (R97) -/

/-- From the record `b` on, nothing before it matters to the answer. -/
theorem trailFrom_skip {field : TrailRecord → Option Int} {a b : TrailRecord} {rest : List TrailRecord} {x : Int}
    (hab : a.position < b.position) (hx : b.position ≤ x) : trailFrom field a (b :: rest) x = trailFrom field b rest x := by
  rw [trailFrom, if_neg (by omega), if_neg (by omega)]

/-- At or above the position of `a` the answer rests on `a` and the records after it alone. -/
theorem trailFrom_append {field : TrailRecord → Option Int} {a : TrailRecord} {rest : List TrailRecord} {x : Int} (hx : a.position ≤ x)
    (first : TrailRecord) (pre : List TrailRecord)
    (hsorted : (first :: (pre ++ a :: rest)).Pairwise fun y z => y.position < z.position) :
    trailFrom field first (pre ++ a :: rest) x = trailFrom field a rest x := by
  induction pre generalizing first with
  | nil => exact trailFrom_skip (List.rel_of_pairwise_cons hsorted List.mem_cons_self) hx
  | cons c pre ih =>
    obtain ⟨hfirst, htail⟩ := List.pairwise_cons.1 hsorted
    have hca : c.position < a.position := List.rel_of_pairwise_cons htail (by simp)
    rw [List.cons_append, trailFrom_skip (hfirst c List.mem_cons_self) (by omega), ih c htail]

theorem Trail.Sound.question_from {t : Trail} {field : TrailRecord → Option Int} {x : Int} {pre rest : List TrailRecord} {a : TrailRecord}
    (h : t.Sound) (hrecords : t.records = pre ++ a :: rest) (h0 : 0 ≤ x) (hx : a.position ≤ x) :
    t.question field x = trailFrom field a rest x := by
  obtain ⟨-, -, hsorted, -⟩ := h
  rw [hrecords] at hsorted
  rw [Trail.question, if_neg (by omega), hrecords]
  cases pre with
  | nil => exact if_neg (by omega)
  | cons first pre =>
    have hfa : first.position < a.position := List.rel_of_pairwise_cons hsorted (by simp)
    exact (if_neg (by omega)).trans (trailFrom_append hx first pre hsorted)

/-- At its own position a record answers with its own residual. -/
theorem trailFrom_self (field : TrailRecord → Option Int) (a : TrailRecord) (rest : List TrailRecord) :
    trailFrom field a rest a.position = (field a).getD 0 := by
  cases rest with
  | nil => rfl
  | cons b rest => exact if_pos rfl

/-- The stretch between two positions, as a segment: between two records the trail answers as the Design Table does in a segment
(R81, R97). -/
def stretch (p1 p2 : Int) : Segment := ⟨0, .transition, p1, p2 - p1, 0, 0, 0, 0⟩

theorem trailBetween_eq_interpolate (p1 v1 p2 v2 x : Int) : trailBetween p1 v1 p2 v2 x = (stretch p1 p2).interpolate v1 v2 x := rfl

theorem trailBetween_between {p1 p2 x : Int} (h1 : p1 ≤ x) (h2 : x < p2) (v1 v2 : Int) :
    min v1 v2 ≤ trailBetween p1 v1 p2 v2 x ∧ trailBetween p1 v1 p2 v2 x ≤ max v1 v2 :=
  Segment.interpolate_between (g := stretch p1 p2) ⟨h1, by simp only [Segment.stop, stretch]; omega⟩ v1 v2

theorem trailBetween_nearest {p1 p2 : Int} (h : p1 < p2) (v1 v2 x : Int) :
    2 * ((trailBetween p1 v1 p2 v2 x - v1) * (p2 - p1) - (v2 - v1) * (x - p1)).natAbs ≤ (p2 - p1).natAbs :=
  Segment.interpolate_nearest (g := stretch p1 p2) (Int.sub_pos.2 h) v1 v2 x

/-- Strictly between two neighbours the answer is the one between them (R97, case 5). -/
theorem Trail.Sound.question_between {t : Trail} {field : TrailRecord → Option Int} {x : Int} {i : Nat} {a b : TrailRecord} (h : t.Sound)
    (h0 : 0 ≤ x) (ha : t.records[i]? = some a) (hb : t.records[i + 1]? = some b) (hax : a.position < x) (hxb : x < b.position) :
    t.question field x = trailBetween a.position ((field a).getD 0) b.position ((field b).getD 0) x := by
  have hsplit : t.records = t.records.take i ++ a :: b :: t.records.drop (i + 2) := by
    obtain ⟨hi, rfl⟩ := List.getElem?_eq_some_iff.1 ha
    obtain ⟨hj, rfl⟩ := List.getElem?_eq_some_iff.1 hb
    rw [← List.drop_eq_getElem_cons hj, ← List.drop_eq_getElem_cons hi, List.take_append_drop]
  rw [h.question_from hsplit h0 hax.le, trailFrom, if_neg (by omega), if_pos hxb]

end Sys2Proof.Machine

section
open Sys2Proof Sys2Proof.Machine

/-- Settles O39: each case of R97 names the record from which the trail is read on. -/
theorem trailAnswersByInterpolation : Obligations.TrailAnswersByInterpolation := by
  unfold Obligations.TrailAnswersByInterpolation
  intro t field x h
  refine ⟨fun hnone => ?_, fun oldest h0 hhead hx => ?_, fun a ha h0 hx => ?_, fun newest h0 hlast hx => ?_,
    fun i a b v1 v2 h0 ha hb hax hxb hv1 hv2 => ?_⟩
  · unfold Trail.question
    split
    · rfl
    · next hx => rw [hnone.resolve_left hx]
  · obtain ⟨rest, hrest⟩ := List.head?_eq_some_iff.1 hhead
    rw [Trail.question, if_neg (by omega), hrest]
    exact if_pos hx
  · obtain ⟨pre, rest, hrecords⟩ := List.append_of_mem ha
    rw [h.question_from hrecords h0 hx.ge, hx, trailFrom_self]
  · obtain ⟨pre, hrecords⟩ := List.getLast?_eq_some_iff.1 hlast
    rw [h.question_from hrecords h0 hx.le, trailFrom]
  · rw [hv1, hv2, h.question_between h0 ha hb hax hxb]
    exact ⟨trailBetween_nearest (by omega) .., trailBetween_between (by omega) hxb ..⟩

end

namespace Sys2Proof.Machine

/-! ## One unit's event outside a retreat -/

/-- Outside a retreat a unit's event that changes one unit, the arbiter and the orders changes nothing else. -/
theorem unitEvent_unitMoved {s : State} {u : UnitId} {x : TUnit} {a : Arbiter} {orders : List FieldOrder}
    (h : NoRetreat (s.unitStep u x a orders)) : UnitMoved u x a orders s (unitEvent (s.unitStep u x a orders)) := by
  obtain ⟨⟨hstate, htravel, hfield⟩, hlink⟩ := unitEvent_ended h
  rw [List.append_nil] at hfield
  exact ⟨hstate, ⟨htravel, hfield⟩, hlink⟩

theorem TUnit.record_eq_noting (f : UnitResult → UnitResult) (x : TUnit) : x.record f = x.noting f := by
  unfold TUnit.record TUnit.noting
  split <;> rfl

theorem TUnit.noting_result_frozen {x : TUnit} (h : x.frozen = true) (f : UnitResult → UnitResult) :
    (x.noting f).result = x.result := if_pos h

theorem TUnit.noting_result_free {x : TUnit} (h : ¬ x.frozen = true) (f : UnitResult → UnitResult) :
    (x.noting f).result = f x.result := if_neg h

/-! ## The squeeze's expiry (R91, R130) -/

/-- A LOST channel tells nothing of the pressure (R91). -/
theorem UnitResult.judge_lost {c : ChannelRec} (h : c.state = .lost) (r : UnitResult) (pressure : Int) :
    r.judge c pressure = { r with pressureUnknown := true } := if_pos (by rw [ChannelRec.isLost, h]; rfl)

/-- The judgement by the value of a channel that is not LOST (R91). -/
theorem UnitResult.judge_value {c : ChannelRec} {v : Int} (h : c.state ≠ .lost) (hv : c.value = some v) (r : UnitResult)
    (pressure : Int) : r.judge c pressure = if 9 * pressure ≤ 10 * v then r else { r with squeezeLow := true } := by
  rw [UnitResult.judge, if_neg (by simpa [ChannelRec.isLost] using h), ChannelRec.current, hv]
  rfl

/-- At the expiry the unit notes the judgement and is sent to OPENING (R130, R133). -/
theorem squeezeExpired_step {u : UnitId} {s : State} {g : UnitSettings} (h : (s.unit u).orderNo ≤ 255)
    (hg : (s.unit u).settings = some g) :
    squeezeExpired u s = s.unitStep u
      ((s.unit u).noting fun r => r.judge (s.meas.channels.get (.press u)) g.pressure).sentOpening s.arb
      [.unit u .opens (numberAfter (s.unit u).orderNo)] := by
  have hgiven : (s.unit u).given = g := by rw [TUnit.given, hg]; rfl
  rw [squeezeExpired, changeUnit_step, TUnit.record_eq_noting, hgiven, startOpening_step (by simpa [TUnit.noting] using h)]
  simp [TUnit.noting, Channels.get]

end Sys2Proof.Machine

section
open Sys2Proof Sys2Proof.Machine

/-- Settles O52: the expiry is one change of the unit, whose new result is the judgement unless it is frozen. -/
theorem squeezeIsJudgedAndOpens : Obligations.SqueezeIsJudgedAndOpens := by
  unfold Obligations.SqueezeIsJudgedAndOpens
  rintro u s g p ⟨-, hno, -⟩ hst htimer hg hnr rfl
  have hexec : exec (.squeezeTimerExpiry u) s = .next (unitEvent (squeezeExpired u s)) :=
    congrArg Host.Outcome.next (if_pos (by simp [TUnit.timed, hst, htimer]))
  rw [squeezeExpired_step hno hg] at hexec
  refine ⟨_, _, hexec, unitEvent_unitMoved hnr, ?_⟩
  by_cases hfrozen : (s.unit u).frozen = true
  · rw [if_pos hfrozen, TUnit.noting_result_frozen hfrozen]
  rw [if_neg hfrozen, TUnit.noting_result_free hfrozen]
  by_cases hlost : (s.meas.channels.get (.press u)).state = .lost
  · rw [if_pos hlost, UnitResult.judge_lost hlost]
  rw [if_neg hlost]
  exact fun v hv => UnitResult.judge_value hlost hv _ _

end

namespace Sys2Proof.Machine

/-! ## What a sample does to the channels (R84 to R87) -/

theorem takeSample_get (cs : Channels ChannelRec) (sample : Channels Reading) (c : Channel) :
    (takeSample cs sample).get c = (cs.get c).take c (sample.get c) := by
  cases c with
  | press u => cases u <;> rfl
  | _ => rfl

theorem goodReading_iff (c : Channel) (r : Reading) :
    goodReading c r = true ↔ r.valid = true ∧ (channelRange c).1 ≤ r.value ∧ r.value ≤ (channelRange c).2 := by
  simp [goodReading, and_assoc]

theorem ChannelRec.take_good {c : Channel} {r : Reading} (h : goodReading c r = true) (x : ChannelRec) :
    x.take c r = ⟨.valid, 0, some r.value⟩ := if_pos h

/-- A bad value moves the channel on towards LOST, by its state (R86). -/
theorem ChannelRec.Sound.take_bad {c : Channel} {r : Reading} {x : ChannelRec} (hx : x.Sound c) (h : ¬ goodReading c r = true) :
    ChannelBad x (x.take c r) := by
  obtain ⟨hheld, -⟩ := hx
  unfold ChannelRec.take ChannelBad
  rw [if_neg h]
  cases hst : x.state with
  | valid => simp
  | held =>
    rw [hst] at hheld
    obtain ⟨-, hle, -⟩ := hheld
    by_cases hlt : x.held < 5
    · simp only [if_pos hlt]
      simp [hlt.ne]
    · simp only [if_neg hlt]
      simp [hlt]
  | lost =>
    rw [hst] at hheld
    simp [hst, hheld]

/-- A missed sample is bad on every channel (R85). -/
theorem missedSample_bad (c : Channel) : ¬ goodReading c (missedSample.get c) = true := by
  have hvalid : (missedSample.get c).valid = false := by
    cases c with
    | press u => cases u <;> rfl
    | _ => rfl
  simp [goodReading, hvalid]

/-! ## What a sample leads to (R88) -/

theorem takeSampleStep_meas (sample : Channels Reading) (s : State) :
    (takeSampleStep sample s).meas = ⟨takeSample s.meas.channels sample, some 20⟩ := by
  simp [takeSampleStep, updateChannels, sampleTime]

theorem updateChannels_eq (sample : Channels Reading) (s : State) :
    updateChannels sample s = { s with meas := (takeSampleStep sample s).meas } := by
  rw [takeSampleStep_meas]
  rfl

theorem exec_sampleTimerExpiry {s : State} (h : s.meas.timer.isSome = true) :
    exec .sampleTimerExpiry s = .next (takeSampleStep missedSample s) := congrArg Host.Outcome.next (if_pos h)

/-- Without a self-test a sample is handed to the LLU alone. -/
theorem takeSampleStep_untested {s : State} (h : s.test.running = false) (sample : Channels Reading) :
    takeSampleStep sample s = unitEvent (lluSample s.meas.channels (updateChannels sample s)) := by
  rw [takeSampleStep, testSample_eq (by simpa using h)]
  rfl

/-- In the states that take no sample the LLU leaves it. -/
theorem lluSample_unheard {s : State} (hc : s.llu.state ≠ .clamping) (hl : s.llu.state ≠ .lifting) (hs : s.llu.state ≠ .settling)
    (before : Channels ChannelRec) : lluSample before s = s := by
  unfold lluSample
  cases hst : s.llu.state with
  | clamping => exact absurd hst hc
  | lifting => exact absurd hst hl
  | settling => exact absurd hst hs
  | _ => rfl

/-- With nobody to hand it to, a sample changes the channels and its timer alone. -/
theorem takeSampleStep_unheard {s : State} (hc : s.llu.state ≠ .clamping) (hl : s.llu.state ≠ .lifting) (hs : s.llu.state ≠ .settling)
    (hnr : NoRetreat s) (hd : DriveSound s) (ht : s.test.running = false) (sample : Channels Reading) :
    takeSampleStep sample s = { s with meas := (takeSampleStep sample s).meas, link := s.link.begin } := by
  obtain ⟨w, hw⟩ : ∃ w, w = updateChannels sample s := ⟨_, rfl⟩
  have hstep : takeSampleStep sample s = conclude w := by
    rw [takeSampleStep_untested ht, ← hw, lluSample_unheard (hw ▸ hc) (hw ▸ hl) (hw ▸ hs), unitEvent, followRetreat_eq (hw ▸ hnr)]
  rw [hstep, conclude, issueDrive_of_sound (hw ▸ hd), hw]
  rfl

/-! ### A channel newly LOST (R151) -/

/-- The channels that the LLU lifts by are those whose loss it tests for. -/
theorem State.LiftsBy.mem {s : State} {ch : Channel} (h : s.LiftsBy ch) :
    ch ∈ liftChannels s.params.grade s.llu.demanded.hook.isSome := by
  rcases h with rfl | rfl | rfl | ⟨rfl, d, hd, hook⟩
  · simp [liftChannels]
  · simp [liftChannels]
  · simp [liftChannels]
  · simp [liftChannels, Llu.demanded, hd, hook]

theorem lostChannel_of_liftsBy {s : State} {ch : Channel} {before : Channels ChannelRec} (h : s.LiftsBy ch)
    (hbefore : (before.get ch).state ≠ .lost) (hafter : (s.meas.channels.get ch).state = .lost) : s.lostChannel before = true :=
  List.any_eq_true.2 ⟨ch, h.mem, by simp [newlyLost, ChannelRec.isLost, hbefore, hafter]⟩

theorem lluSample_lost {s : State} {before : Channels ChannelRec} (hst : s.llu.state = .clamping ∨ s.llu.state = .lifting)
    (hr : s.llu.retreat = false) (h : s.lostChannel before = true) : lluSample before s = lluSensorLost s := by
  rcases hst with hst | hst <;> simp [lluSample, hst, hr, h]

/-- An LLU without a retreat mark that gives its motion up and keeps its state stands as the table gives (R143, R151). -/
theorem Llu.Shaped.givenUp {x : Llu} (h : x.Shaped) (hst : x.state ≠ .releasing) (hr : x.retreat = false) :
    ({ x.ended with waiting := false } : Llu).Shaped := by
  obtain ⟨-, hno, -, -, -, hjoin, hsettle⟩ := h
  exact ⟨rfl, hno, hst, fun _ _ => ⟨rfl, rfl⟩, fun _ => hr, hjoin, hsettle⟩

/-- A channel the LLU lifts by is newly LOST: the LLU gives its motion up and SENSOR_LOST goes to Job Control (R26, R151). -/
theorem takeSampleStep_sensorLost {s : State} {ch : Channel} {sample : Channels Reading}
    (hst : s.llu.state = .clamping ∨ s.llu.state = .lifting) (hr : s.llu.retreat = false) (ht : s.test.running = false)
    (hsound : WorkheadSound s) (hch : s.LiftsBy ch) (hbefore : (s.meas.channels.get ch).state ≠ .lost)
    (hlost : ((takeSampleStep sample s).meas.channels.get ch).state = .lost) :
    LluSensorLost (takeSampleStep sample s).meas s (takeSampleStep sample s) := by
  obtain ⟨hunits, hllu, -⟩ := hsound
  obtain ⟨w, hw⟩ : ∃ w, w = updateChannels sample s := ⟨_, rfl⟩
  have hmeas := hw.trans (updateChannels_eq sample s)
  have hsample : lluSample s.meas.channels w = lluSensorLost w := by
    subst hmeas
    exact lluSample_lost hst hr (lostChannel_of_liftsBy hch hbefore hlost)
  have hgiven : leaveLluMotion w = w.lluStep { s.llu.ended with waiting := false }
      (if s.llu.waiting then s.arb.withdraw .llu else s.arb.release .llu) s.llu.cancels := by
    subst hmeas
    exact leaveLluMotion_step hllu.waits
  have hshaped := hllu.givenUp (by rcases hst with h | h <;> simp [h]) hr
  have hfaulted := unitEvent_faulted (code := .sensorLost) (source := .llu) (s := leaveLluMotion w)
    (by rw [hgiven, hmeas]; exact hunits) (by rw [hgiven]; exact hshaped)
  have hstep : takeSampleStep sample s = unitEvent (raiseFault .sensorLost .llu (leaveLluMotion w)) := by
    rw [takeSampleStep_untested ht, ← hw, hsample, lluSensorLost]
  rw [← hstep, hgiven, hmeas] at hfaulted
  exact hfaulted

/-! ### A sample under the retreat mark (R148, R158) -/

theorem formAchieved_eq (s : State) : formAchieved s = { s with llu := (formAchieved s).llu } := by
  unfold formAchieved
  split <;> rfl

theorem followRetreat_frame (s : State) : followRetreat s = { s with llu := (followRetreat s).llu, arb := (followRetreat s).arb } := by
  unfold followRetreat endRetreat lluRetreatRelease
  (repeat' split) <;> rfl

/-- The drive and the line that an event has issued are told from the travel record, the Field Side and the link alone. -/
theorem Issued.congr {s s' t : State} {orders : List FieldOrder} (h : Issued s t orders) (htravel : s'.travel = s.travel)
    (hfield : s'.field = s.field) (hlink : s'.link = s.link) : Issued s' t orders := by
  simpa only [Issued, Driven, htravel, hfield, hlink] using h

/-- A retreating LLU in LIFTING forms its values, and the retreat is followed up. -/
theorem takeSampleStep_retreating {s : State} (hst : s.llu.state = .lifting) (hr : s.llu.retreat = true)
    (ht : s.test.running = false) (sample : Channels Reading) : RetreatSample s (takeSampleStep sample s) := by
  obtain ⟨w, hw⟩ : ∃ w, w = updateChannels sample s := ⟨_, rfl⟩
  have hmeas := hw.trans (updateChannels_eq sample s)
  have hsample : lluSample s.meas.channels w = formAchieved w := by
    subst hmeas
    simp [lluSample, hst, hr]
  have hstep : takeSampleStep sample s = conclude (followRetreat (formAchieved w)) := by
    rw [takeSampleStep_untested ht, ← hw, hsample, unitEvent]
  obtain ⟨v, hv⟩ : ∃ v, v = formAchieved w := ⟨_, rfl⟩
  have hkeeps : v.travel = s.travel ∧ v.field = s.field ∧ v.link = s.link ∧ v.arb = s.arb := by simp [hv, hw]
  obtain ⟨htravel, hfield, hlink, harb⟩ := hkeeps
  refine ⟨v.llu, ?_, ?_, ?_, ?_⟩
  · have hchannels : (takeSampleStep sample s).meas.channels = w.meas.channels := by rw [hmeas]
    rw [hchannels, hv]
    exact formAchieved_formed (by simp [hw]) (by simp [hw])
  · rw [hstep, ← hv, ← harb]
    exact (followRetreat_followed v).congr (by simp) (by simp) (by simp) (by simp)
  · rw [hstep, conclude_eq, followRetreat_frame, formAchieved_eq, hmeas]
  · rw [hstep, ← hv]
    exact (conclude_issued (followRetreat v)).congr (by simp [htravel]) (by simp [hfield]) (by simp [hlink])

end Sys2Proof.Machine

section
open Sys2Proof Sys2Proof.Machine

/-- Settles O40: both commands take a sample, and what it leads to is the LLU's part. -/
theorem samplesMoveTheChannels : Obligations.SamplesMoveTheChannels := by
  unfold Obligations.SamplesMoveTheChannels
  intro sample s
  have hchannel (x : Channels Reading) (c : Channel) :
      (takeSampleStep x s).meas.channels.get c = (s.meas.channels.get c).take c (x.get c) := by
    rw [takeSampleStep_meas, takeSample_get]
  have htimer (x : Channels Reading) : (takeSampleStep x s).meas.timer = some 20 := by rw [takeSampleStep_meas]
  refine ⟨takeSampleStep sample s, takeSampleStep missedSample s, rfl, exec_sampleTimerExpiry, htimer _, fun _ => htimer _,
    fun c hc => ⟨?_, fun _ => ?_⟩, fun hcl hl hs hnr hd ht => ?_, fun ch hst hr ht hw hch hbefore => ?_, fun hst hr ht => ?_⟩
  · rw [hchannel]
    split
    · next hgood => exact ChannelRec.take_good ((goodReading_iff c _).2 hgood) _
    · next hbad => exact hc.take_bad (mt (goodReading_iff c _).1 hbad)
  · rw [hchannel]
    exact hc.take_bad (missedSample_bad c)
  · exact ⟨takeSampleStep_unheard hcl hl hs hnr hd ht _, fun _ => takeSampleStep_unheard hcl hl hs hnr hd ht _⟩
  · exact ⟨takeSampleStep_sensorLost hst hr ht hw hch hbefore, fun _ => takeSampleStep_sensorLost hst hr ht hw hch hbefore⟩
  · exact ⟨takeSampleStep_retreating hst hr ht _, fun _ => takeSampleStep_retreating hst hr ht _⟩

end

namespace Sys2Proof.Machine

/-! ## When the drive order issued is the one due (R104, R105) -/

/-- The drive due reads the travel record, the job's state and phase, the LLU's state and the units alone. -/
theorem DriveSound.congr {s t : State} (h : DriveSound s) (htravel : t.travel = s.travel) (hstate : t.job.state = s.job.state)
    (hphase : t.job.phase = s.job.phase) (hllu : t.llu.state = s.llu.state) (hunits : t.units = s.units) : DriveSound t := by
  have hpermitted : t.drivePermitted = s.drivePermitted := by
    simp only [State.drivePermitted, hstate, hphase, hllu, hunits]
  rw [DriveSound, State.driveDue, hpermitted, htravel]
  exact h

theorem driveSound_of_stop {s : State} (hi : s.travel.state = .idle) (hd : s.travel.drive = .stop) : DriveSound s :=
  hd.trans (driveDue_idle hi).symm

theorem conclude_driveSound (s : State) : DriveSound (conclude s) :=
  (issueDrive_sound s).congr (by simp [conclude]) (by simp) (by simp) (by simp) (by simp)

theorem positionerIdle_driveSound (s : State) : DriveSound (positionerIdle s) := issueDrive_sound _

/-- After the Positioner has been made IDLE a common retreat leaves the drive alone. -/
theorem commonRetreat_travel (p : Bool) (s : State) : (commonRetreat p s).travel = s.idled.travel := by
  simp [commonRetreat, positionerIdle_eq]

theorem commonRetreat_driveSound (p : Bool) (s : State) : DriveSound (commonRetreat p s) :=
  driveSound_of_stop (by rw [commonRetreat_travel]; rfl) (by rw [commonRetreat_travel]; rfl)

/-- A guarded event leaves the drive as due when what it does leaves it so. -/
theorem ite_driveSound {p : Prop} [Decidable p] {s t : State} (h : DriveSound s) (ht : DriveSound t) :
    DriveSound (if p then t else s) := by
  split
  · exact ht
  · exact h

/-! ### Requests -/

theorem takeRequest_driveSound {f : Frame} {fits reading : Bool} {owner : State → State × Answer} {s : State} (h : DriveSound s)
    (ho : ∀ t, DriveSound t → DriveSound (owner t).1) : DriveSound (takeRequest f fits reading owner s) :=
  takeRequest_holds (fun _ _ ht => ht) h fun _ _ ht => ho _ ht

theorem readRequest_driveSound {f : Frame} {fits : Bool} {a : State → Answer} {s : State} (h : DriveSound s) :
    DriveSound (readRequest f fits a s) := takeRequest_driveSound h fun _ ht => ht

theorem parametersOwner_driveSound {body : List Byte} {s : State} (h : DriveSound s) : DriveSound (parametersOwner body s).1 := by
  unfold parametersOwner
  split
  · exact h
  · dsimp only
    split <;> exact h

theorem loadOwner_driveSound {body : List Byte} {s : State} (h : DriveSound s) : DriveSound (loadOwner body s).1 := by
  unfold loadOwner
  dsimp only
  split
  · exact h
  · exact issueDrive_sound _

theorem clearOwner_driveSound {s : State} (h : DriveSound s) : DriveSound (clearOwner s).1 := by
  unfold clearOwner
  split <;> exact h

theorem startOwner_driveSound {s : State} (h : DriveSound s) : DriveSound (startOwner s).1 := by
  unfold startOwner
  repeat' split
  exacts [h, h, h, h, issueDrive_sound _]

/-- A pause at once stops the drive; a pause pending leaves the job RUNNING in its phase (R35). -/
theorem pauseOwner_driveSound {s : State} (h : DriveSound s) : DriveSound (pauseOwner s).1 := by
  unfold pauseOwner
  split
  · exact h
  · split
    · exact (positionerIdle_driveSound _).congr rfl rfl rfl rfl rfl
    · exact h

theorem resumeOwner_driveSound {s : State} (h : DriveSound s) : DriveSound (resumeOwner s).1 := by
  unfold resumeOwner
  split
  · exact h
  · exact issueDrive_sound _

theorem retryOwner_driveSound {s : State} (h : DriveSound s) : DriveSound (retryOwner s).1 := by
  unfold retryOwner
  repeat' split
  exacts [h, h, h, h, issueDrive_sound _]

theorem skipOwner_driveSound {s : State} (h : DriveSound s) : DriveSound (skipOwner s).1 := by
  unfold skipOwner
  repeat' split
  exacts [h, h, issueDrive_sound _, issueDrive_sound _]

theorem abortOwner_driveSound {s : State} (h : DriveSound s) : DriveSound (abortOwner s).1 := by
  unfold abortOwner
  split
  · exact h
  · exact commonRetreat_driveSound _ _

theorem parkAllOwner_driveSound {s : State} (h : DriveSound s) : DriveSound (parkAllOwner s).1 := by
  unfold parkAllOwner
  split
  · exact commonRetreat_driveSound _ _
  · exact h

theorem openOwner_driveSound {body : List Byte} {s : State} (h : DriveSound s) : DriveSound (openOwner body s).1 := by
  unfold openOwner
  dsimp only
  repeat' split
  exacts [h, h, h]

theorem segmentOwner_driveSound {body : List Byte} {s : State} (h : DriveSound s) : DriveSound (segmentOwner body s).1 := by
  unfold segmentOwner
  dsimp only
  split <;> exact h

theorem closeOwner_driveSound {s : State} (h : DriveSound s) : DriveSound (closeOwner s).1 := by
  unfold closeOwner
  split <;> exact h

/-- The first item of a self-test moves valves or destroys a memory; it does not reach the drive (R187). -/
theorem selfTestOwner_driveSound {body : List Byte} {s : State} (h : DriveSound s) : DriveSound (selfTestOwner body s).1 := by
  unfold selfTestOwner
  dsimp only
  repeat' split
  · exact h
  · exact h
  · exact h
  · exact h.congr (by simp) (by simp) (by simp) (by simp) (by simp)

theorem restartOwner_driveSound {s : State} (h : DriveSound s) : DriveSound (restartOwner s).1 := by
  unfold restartOwner
  split <;> exact h

/-! ### The step -/

/-- A command issues the drive order that is due, or leaves all that the drive rests on as it was. -/
theorem exec_driveSound (c : Instr) {s t : State} (h : DriveSound s) (ht : exec c s = .next t) : DriveSound t := by
  cases c with
  | powerOn => cases ht; exact driveSound_of_stop rfl rfl
  | identify | readStatus | readParameters | readQueue | readTable | readMeasurement | readTrail =>
    cases ht; exact readRequest_driveSound h
  | setParameters => cases ht; exact takeRequest_driveSound h fun _ => parametersOwner_driveSound
  | loadEntry => cases ht; exact takeRequest_driveSound h fun _ => loadOwner_driveSound
  | collectResults => cases ht; exact takeRequest_driveSound h fun _ ht => ht
  | clearQueue => cases ht; exact takeRequest_driveSound h fun _ => clearOwner_driveSound
  | startJob => cases ht; exact takeRequest_driveSound h fun _ => startOwner_driveSound
  | pauseJob => cases ht; exact takeRequest_driveSound h fun _ => pauseOwner_driveSound
  | resumeJob => cases ht; exact takeRequest_driveSound h fun _ => resumeOwner_driveSound
  | retryEntry => cases ht; exact takeRequest_driveSound h fun _ => retryOwner_driveSound
  | skipEntry => cases ht; exact takeRequest_driveSound h fun _ => skipOwner_driveSound
  | abortJob => cases ht; exact takeRequest_driveSound h fun _ => abortOwner_driveSound
  | parkAll => cases ht; exact takeRequest_driveSound h fun _ => parkAllOwner_driveSound
  | openTable => cases ht; exact takeRequest_driveSound h fun _ => openOwner_driveSound
  | tableSegment => cases ht; exact takeRequest_driveSound h fun _ => segmentOwner_driveSound
  | closeTable => cases ht; exact takeRequest_driveSound h fun _ => closeOwner_driveSound
  | selfTest => cases ht; exact takeRequest_driveSound h fun _ => selfTestOwner_driveSound
  | restart => cases ht; exact takeRequest_driveSound h fun _ => restartOwner_driveSound
  | interByteTimeout | frameSent | byteReceived => cases ht; exact h
  | unknownKindRequest | frameReceived | lluSettleExpiry | valveReadback => cases ht; exact ite_driveSound h h
  | sampleArrival | odometerStep | unitGrant | lluGrant => cases ht; exact conclude_driveSound _
  | stopLineAssertion => cases ht; exact ite_driveSound (conclude_driveSound _) h
  | restartEffect | sampleTimerExpiry | positionSettleExpiry | stopLineRelease | selfTestItemExpiry | memoryMismatch =>
    cases ht; exact ite_driveSound h (conclude_driveSound _)
  | shiftReached | depthReached | tinesOpen | atMid | atPark | shiftTimeout | insertionTimerExpiry | squeezeTimerExpiry
  | openTimeout | raiseMidTimeout | raiseParkTimeout => cases ht; exact ite_driveSound h (conclude_driveSound _)
  | clamped | forceLimit | unclamped | clampTimeout | liftTimerExpiry | unclampTimeout | joinHoldExpiry =>
    cases ht; exact ite_driveSound h (conclude_driveSound _)

/-! ### The drive under way -/

theorem UnitState.mayTravel_iff (st : UnitState) : st.mayTravel = true ↔ st = .parked ∨ st = .shifting ∨ st = .set := by
  cases st <;> simp [UnitState.mayTravel]

theorem drivePermitted_iff (s : State) : s.drivePermitted = true ↔
    s.job.state = .running ∧ s.job.phase = some .positioning ∧ s.llu.state = .isOpen ∧
    ∀ u, (s.unit u).state = .parked ∨ (s.unit u).state = .shifting ∨ (s.unit u).state = .set := by
  simp [State.drivePermitted, Quad.all_iff, UnitState.mayTravel_iff, State.unit, and_assoc]

theorem wantedDrive_ne_stop {st : PosState} (h : wantedDrive st ≠ .stop) : st = .fast ∨ st = .creep ∨ st = .reversing := by
  revert h
  cases st <;> simp [wantedDrive]

end Sys2Proof.Machine

section
open Sys2Proof Sys2Proof.Machine

/-- Settles O46: a command that can change the drive ends by issuing the order due, and the order due is other than STOP under the
drive permission alone. -/
theorem stepKeepsDriveSound : Obligations.StepKeepsDriveSound := by
  unfold Obligations.StepKeepsDriveSound
  refine ⟨fun s t h ht => ?_, fun s h hd => ?_⟩
  · unfold step at ht
    split at ht
    · cases ht; exact h
    · next c rest _ => exact exec_driveSound c (s := { s with pending := rest }) h ht
  · rw [show s.travel.drive = s.driveDue from h, State.driveDue] at hd
    by_cases hp : s.drivePermitted = true
    · rw [if_pos hp] at hd
      obtain ⟨hstate, hphase, hllu, hunits⟩ := (drivePermitted_iff s).1 hp
      exact ⟨hstate, hphase, hllu, hunits, wantedDrive_ne_stop hd⟩
    · exact absurd (if_neg hp) hd

end

namespace Sys2Proof.Machine

/-! ## Odometer steps and the settle timer (R100, R101, R108 to R116) -/

/-! ### A change of the travel record alone -/

/-- Only the travel record has changed in `s`, to `v` with the drive order that is due, which has been sent if it is a change; and the
next frame has begun if the line was free (R104, R105, R182). -/
def Travelled (s t : State) (v : Travel) : Prop :=
  t = { s with travel := t.travel, field := t.field, link := s.link.begin } ∧
  t.travel = { v with drive := if s.drivePermitted then wantedDrive v.state else .stop } ∧
  t.field = { s.field with
    sent := s.field.sent ++ (if s.travel.drive = t.travel.drive then [] else [.drive t.travel.drive]) }

theorem Travelled.travel_wanted {s t : State} {v : Travel} {d : Drive} (h : Travelled s t v) (hv : wantedDrive v.state = d) :
    t.travel = { v with drive := if s.drivePermitted then d else .stop } := by
  obtain ⟨-, htravel, -⟩ := h
  rw [htravel, hv]

/-- A state that wants STOP has it, whatever the permission. -/
theorem Travelled.travel_stop {s t : State} {v : Travel} (h : Travelled s t v) (hv : wantedDrive v.state = .stop) :
    t.travel = { v with drive := .stop } := by
  rw [h.travel_wanted hv, ite_self]

theorem Travelled.travel_due {s t : State} {v : Travel} (h : Travelled s t v) (hd : DriveSound t) :
    t.travel = { v with drive := t.driveDue } := by
  obtain ⟨-, htravel, -⟩ := h
  have hdrive : t.driveDue = if s.drivePermitted then wantedDrive v.state else .stop :=
    hd.symm.trans (congrArg Travel.drive htravel)
  rw [hdrive, htravel]

/-- Outside a retreat an event that changes the travel record issues the drive order due. -/
theorem unitEvent_travelled {s : State} (hnr : NoRetreat s) {v : Travel} (hv : v.drive = s.travel.drive) :
    Travelled s (unitEvent (s.setTravel v)) v := by
  have hdue : (s.setTravel v).driveDue = if s.drivePermitted then wantedDrive v.state else .stop := rfl
  rw [unitEvent, followRetreat_eq (s := s.setTravel v) hnr, conclude, issueDrive_eq, hdue, State.setTravel, hv]
  exact ⟨rfl, rfl, rfl⟩

/-- A change of the travel record that leaves the wanted order as it was sends nothing. -/
theorem unitEvent_sameDrive {s : State} (hnr : NoRetreat s) (hd : DriveSound s) {v : Travel} (hv : v.drive = s.travel.drive)
    (hw : wantedDrive v.state = wantedDrive s.travel.state) :
    unitEvent (s.setTravel v) = { s with travel := v, link := s.link.begin } := by
  have hsound : DriveSound (s.setTravel v) := by
    show v.drive = if s.drivePermitted then wantedDrive v.state else .stop
    rw [hv, hw]
    exact hd
  rw [unitEvent, followRetreat_eq (s := s.setTravel v) hnr, conclude, issueDrive_of_sound hsound]
  rfl

/-- A travel fault takes its way from the state with the Positioner IDLE and the drive at STOP (R116). -/
theorem unitEvent_travelFault {code : FaultCode} {s : State} (h : WorkheadSound s) :
    Faulted code .travel s.idled (unitEvent (travelFault code s)) := by
  obtain ⟨hunits, hllu, -⟩ := h
  rw [travelFault, positionerIdle_eq]
  exact unitEvent_faulted hunits hllu

/-! ### P after a step (R100) -/

/-- The travel record with P at `p`. -/
def Travel.withP (t : Travel) (p : Int) : Travel := { t with p := p }

@[simp] theorem Travel.withP_reads (t : Travel) (p : Int) :
    (t.withP p).p = p ∧ (t.withP p).target = t.target ∧ (t.withP p).state = t.state ∧ (t.withP p).drive = t.drive := ⟨rfl, rfl, rfl, rfl⟩

theorem exec_odometerStep_within {mm : Int} {s : State} (hlo : -50000 ≤ s.travel.p + mm) (hhi : s.travel.p + mm ≤ 4000000) :
    exec (.odometerStep mm) s = .next (unitEvent (afterStep false (s.setTravel (s.travel.withP (s.travel.p + mm))))) := by
  have hheld : clamp travelLow travelHigh (s.travel.p + mm) = s.travel.p + mm := by
    rw [clamp, if_neg (by exact not_lt.2 hlo), if_neg (by exact not_lt.2 hhi)]
  show Host.Outcome.next _ = _
  simp only [hheld, bne_self_eq_false]
  rfl

/-- A step past a bound leaves P there. -/
theorem exec_odometerStep_past {mm bound : Int} {s : State}
    (h : (s.travel.p + mm < -50000 ∧ bound = -50000) ∨ (4000000 < s.travel.p + mm ∧ bound = 4000000)) :
    exec (.odometerStep mm) s = .next (unitEvent (afterStep true (s.setTravel (s.travel.withP bound)))) := by
  have hheld : clamp travelLow travelHigh (s.travel.p + mm) = bound := by
    unfold clamp travelLow travelHigh
    rcases h with ⟨hlow, rfl⟩ | ⟨hhigh, rfl⟩
    · rw [if_pos hlow]
    · rw [if_neg (by omega), if_pos hhigh]
  have hsaturated : (bound != s.travel.p + mm) = true := by
    rw [bne_iff_ne]
    omega
  show Host.Outcome.next _ = _
  simp only [hheld, hsaturated]
  rfl

/-! ### The tests of a step, by the Positioner's state (R101, R108 to R114) -/

theorem Travel.stepped_idle {p : Params} {t : Travel} (hst : t.state = .idle) : t.stepped p = t := by
  simp only [Travel.stepped, hst]

theorem Travel.stepped_fast {p : Params} {t : Travel} {goal : Int} (hst : t.state = .fast) (hg : t.target = some goal) :
    t.stepped p = { t with
      state :=
        if goal - p.posTolerance ≤ t.p then .stopping else if goal - p.creepDistance ≤ t.p then .creep else .fast
      settle := if goal - p.posTolerance ≤ t.p then some p.settleTime else t.settle } := by
  simp only [Travel.stepped, hst, Travel.goal_eq hg]
  by_cases hnear : goal - p.posTolerance ≤ t.p
  · simp only [if_pos hnear, stopAtTarget]
  · by_cases hcreep : goal - p.creepDistance ≤ t.p
    · simp only [if_neg hnear, if_pos hcreep]
    · simp only [if_neg hnear, if_neg hcreep, ← hst]

theorem Travel.stepped_creep {p : Params} {t : Travel} {goal : Int} (hst : t.state = .creep) (hg : t.target = some goal) :
    t.stepped p = if goal - p.posTolerance ≤ t.p then stopAtTarget p.settleTime t else t := by
  simp only [Travel.stepped, hst, Travel.goal_eq hg]

theorem Travel.stepped_reversing {p : Params} {t : Travel} {goal : Int} (hst : t.state = .reversing) (hg : t.target = some goal) :
    t.stepped p = if t.p ≤ goal + p.posTolerance then stopAtTarget p.settleTime t else t := by
  simp only [Travel.stepped, hst, Travel.goal_eq hg]

theorem Travel.stepped_stopping {p : Params} {t : Travel} (hst : t.state = .stopping) :
    t.stepped p = stopAtTarget p.settleTime t := by
  simp only [Travel.stepped, hst]

theorem Travel.outside_iff {p : Params} {t : Travel} {goal : Int} (hg : t.target = some goal) :
    t.outside p = true ↔ p.posTolerance < (t.p - goal).natAbs := by
  rw [Travel.outside, Travel.goal_eq hg, decide_eq_true_iff]

/-- In a state other than IN_POSITION a step within the bounds leads to no fault. -/
theorem afterStep_tested {s : State} (hst : s.travel.state ≠ .inPosition) :
    afterStep false s = s.setTravel (s.travel.stepped s.params) := by
  rw [afterStep, if_neg Bool.false_ne_true, if_neg hst]

/-- In IN_POSITION P is tested against the tolerance (R114). -/
theorem afterStep_inPosition {s : State} (hst : s.travel.state = .inPosition) :
    afterStep false s = if s.travel.outside s.params then travelFault .movedWhileWorking s else s := by
  rw [afterStep, if_neg Bool.false_ne_true, if_pos hst]

/-- At a bound it is the job's state that tells whether a fault follows (R101). -/
theorem afterStep_saturated (s : State) :
    afterStep true s = if s.job.state = .running then travelFault .travelLimit s else s := by
  rw [afterStep, if_pos rfl]

/-- A step within the bounds in a state other than IN_POSITION changes the travel record alone. -/
theorem exec_odometerStep_tested {mm : Int} {s : State} (hlo : -50000 ≤ s.travel.p + mm) (hhi : s.travel.p + mm ≤ 4000000)
    (hst : s.travel.state ≠ .inPosition) :
    exec (.odometerStep mm) s = .next (unitEvent (s.setTravel ((s.travel.withP (s.travel.p + mm)).stepped s.params))) := by
  rw [exec_odometerStep_within hlo hhi, afterStep_tested (by exact hst)]
  rfl

theorem odometerStep_travelled {mm : Int} {s : State} (hlo : -50000 ≤ s.travel.p + mm) (hhi : s.travel.p + mm ≤ 4000000)
    (hst : s.travel.state ≠ .inPosition) (hnr : NoRetreat s) :
    ∃ t, exec (.odometerStep mm) s = .next t ∧ Travelled s t ((s.travel.withP (s.travel.p + mm)).stepped s.params) :=
  ⟨_, exec_odometerStep_tested hlo hhi hst, unitEvent_travelled hnr (by simp)⟩

end Sys2Proof.Machine

section
open Sys2Proof Sys2Proof.Machine

/-- Settles O42: CREEP tests the new P against T less the tolerance alone. -/
theorem creepStopsAtTheTolerance : Obligations.CreepStopsAtTheTolerance := by
  unfold Obligations.CreepStopsAtTheTolerance
  intro mm goal s hst hg hlo hhi hnr
  obtain ⟨t, hexec, htravelled⟩ := odometerStep_travelled hlo hhi (by simp [hst]) hnr
  rw [Travel.stepped_creep (by exact hst) (by exact hg)] at htravelled
  obtain ⟨hframe, -, hfield⟩ := id htravelled
  refine ⟨t, hexec, hframe, fun hnear => ?_, fun hfar => ?_, hfield⟩
  · rw [if_pos (by exact hnear)] at htravelled
    exact htravelled.travel_stop rfl
  · rw [if_neg (by exact not_le.2 hfar)] at htravelled
    exact htravelled.travel_wanted (congrArg wantedDrive hst)

/-- Settles O43: REVERSING tests the new P against T plus the tolerance alone. -/
theorem reverseStopsAtTheTolerance : Obligations.ReverseStopsAtTheTolerance := by
  unfold Obligations.ReverseStopsAtTheTolerance
  intro mm goal s hst hg hlo hhi hnr
  obtain ⟨t, hexec, htravelled⟩ := odometerStep_travelled hlo hhi (by simp [hst]) hnr
  rw [Travel.stepped_reversing (by exact hst) (by exact hg)] at htravelled
  obtain ⟨hframe, -, hfield⟩ := id htravelled
  refine ⟨t, hexec, hframe, fun hnear => ?_, fun hfar => ?_, hfield⟩
  · rw [if_pos (by exact hnear)] at htravelled
    exact htravelled.travel_stop rfl
  · rw [if_neg (by exact not_le.2 hfar)] at htravelled
    exact htravelled.travel_wanted (congrArg wantedDrive hst)

/-- Settles O44: within the bounds the step's test is that of the Positioner's state; past a bound it is the job's state that tells
whether a fault follows. -/
theorem stepsAreCountedAndTested : Obligations.StepsAreCountedAndTested := by
  unfold Obligations.StepsAreCountedAndTested
  intro mm goal s hg
  refine ⟨fun hlo hhi hnr hd => ⟨fun hcase => ?_, fun hst => ?_, fun hst => ?_⟩, fun hlo hhi hsound hst hout => ?_,
    fun bound hbound => ⟨fun hs hsound => ?_, fun hs hnr hd => ?_⟩⟩
  · have hstays : afterStep false (s.setTravel (s.travel.withP (s.travel.p + mm))) = s.setTravel (s.travel.withP (s.travel.p + mm)) := by
      rcases hcase with hst | ⟨hst, hnear⟩
      · rw [afterStep_tested (by simp [hst]), Travel.stepped_idle (by simp [hst])]
        rfl
      · rw [afterStep_inPosition (by simp [hst]), if_neg (mt (Travel.outside_iff (goal := goal) (by simp [hg])).1 (not_lt.2 hnear))]
    rw [exec_odometerStep_within hlo hhi, hstays, unitEvent_sameDrive hnr hd (by rfl) (by rfl)]
    rfl
  · rw [exec_odometerStep_tested hlo hhi (by simp [hst]), Travel.stepped_stopping (by simp [hst]),
      unitEvent_sameDrive hnr hd (by rfl) (by rw [hst]; rfl), stopAtTarget, ← hst]
    rfl
  · obtain ⟨t, hexec, htravelled⟩ := odometerStep_travelled hlo hhi (by simp [hst]) hnr
    rw [Travel.stepped_fast (by exact hst) (by exact hg)] at htravelled
    obtain ⟨hframe, -, hfield⟩ := id htravelled
    exact ⟨t, hexec, hframe, htravelled.travel_due (exec_driveSound _ hd hexec), hfield⟩
  · refine ⟨_, exec_odometerStep_within hlo hhi, ?_⟩
    rw [afterStep_inPosition (by exact hst), if_pos ((Travel.outside_iff (by exact hg)).2 hout)]
    exact unitEvent_travelFault (by exact hsound)
  · refine ⟨_, exec_odometerStep_past hbound, ?_⟩
    rw [afterStep_saturated, if_pos (by exact hs)]
    exact unitEvent_travelFault (by exact hsound)
  · rw [exec_odometerStep_past hbound, afterStep_saturated, if_neg (by exact hs), unitEvent_sameDrive hnr hd (by rfl) (by rfl)]
    rfl

end

namespace Sys2Proof.Machine

/-! ## The judgement of a rest away from the target (R112) -/

theorem judgeRest_beyond {s : State} {goal : Int} (hg : s.travel.target = some goal)
    (hp : goal + s.params.posTolerance < s.travel.p) :
    judgeRest s = if s.params.overshootLimit < s.travel.reversals + 1 then travelFault .positionFailed s
      else s.setTravel { s.travel with state := .reversing, reversals := s.travel.reversals + 1, settle := none } := by
  have hout : s.travel.outside s.params = true := (Travel.outside_iff hg).2 (by omega)
  simp only [judgeRest, hout, Travel.goal_eq hg, if_pos hp]
  rfl

theorem judgeRest_short {s : State} {goal : Int} (hg : s.travel.target = some goal)
    (hp : s.travel.p < goal - s.params.posTolerance) :
    judgeRest s = s.setTravel { s.travel with state := .creep, settle := none } := by
  have hout : s.travel.outside s.params = true := (Travel.outside_iff hg).2 (by omega)
  have hbeyond : ¬ goal + s.params.posTolerance < s.travel.p := by omega
  simp only [judgeRest, hout, Travel.goal_eq hg, if_neg hbeyond]
  rfl

end Sys2Proof.Machine

section
open Sys2Proof Sys2Proof.Machine

/-- Settles O45: a rest beyond the tolerance reverses or fails by the reversal count, a rest short of it goes on in CREEP. -/
theorem restIsJudgedAgainstTheTarget : Obligations.RestIsJudgedAgainstTheTarget := by
  unfold Obligations.RestIsJudgedAgainstTheTarget
  intro s goal hst hset hg
  refine ⟨fun hp hlimit hnr => ?_, fun hp hlimit hsound => ?_, fun hp hnr => ?_⟩ <;>
    refine ⟨_, exec_positionSettleExpiry hst hset, ?_⟩
  · rw [judgeRest_beyond hg hp, if_neg (not_lt.2 hlimit)]
    exact unitEvent_travelled hnr rfl
  · rw [judgeRest_beyond hg hp, if_pos hlimit]
    exact unitEvent_travelFault hsound
  · rw [judgeRest_short hg hp]
    exact unitEvent_travelled hnr rfl

end

namespace Sys2Proof.Machine

/-! ## Motions out of their time (R134, R146, R155, R159) -/

/-- A unit that is not PARKED, SHIFTING or SET ends the drive permission (R105). -/
theorem driveDue_of_unit {s : State} {u : UnitId} (h : (s.unit u).state.mayTravel = false) : s.driveDue = .stop := by
  have hp : ¬ s.drivePermitted = true := fun hp => by
    obtain ⟨-, -, -, hunits⟩ := (drivePermitted_iff s).1 hp
    rw [(UnitState.mayTravel_iff _).2 (hunits u)] at h
    cases h
  rw [State.driveDue, if_neg hp]

/-- A unit whose order has run out of its time (R134). -/
def TUnit.timedOut (x : TUnit) : TUnit := { x.ended with state := .stuck, retreat := false }

/-- The LLU after a CLAMP or UNCLAMP has run out of its time, its clamps counting as closed (R146, R155). -/
def Llu.timedOut (x : Llu) : Llu := { x.ended with state := .stuck, clampsClosed := true, retreat := false }

/-- The order is cancelled and the grant released, and a machine that still drives is stopped by the unit's change (R105, R134). -/
theorem stickUnit_eq (u : UnitId) (s : State) : stickUnit u s = { s with
    units := s.units.set u (s.unit u).timedOut, arb := s.arb.release (.unit u), travel := { s.travel with drive := .stop }
    field := { s.field with sent := s.field.sent ++ (s.unit u).cancels u ++ s.stopOrders } } := by
  have hstep : releaseGrant u (changeUnit u (fun x => { x with state := .stuck, retreat := false }) (cancelUnit u s)) =
      s.unitStep u (s.unit u).timedOut (s.arb.release (.unit u)) ((s.unit u).cancels u) := by
    simp [cancelUnit_step, changeUnit_step, releaseGrant_step, TUnit.timedOut]
  have hdue : (s.unitStep u (s.unit u).timedOut (s.arb.release (.unit u)) ((s.unit u).cancels u)).driveDue = .stop :=
    driveDue_of_unit (u := u) (by rw [(unitStep_reads ..).1]; rfl)
  rw [stickUnit, hstep, issueDrive_eq, hdue]
  rfl

theorem clampFailed_eq (s : State) : clampFailed s =
    raiseFault .clampFailed .llu (s.lluStep s.llu.timedOut (s.arb.release .llu) s.llu.cancels) := by
  simp [clampFailed, cancelLlu_step, releaseLluGrant_step, changeLlu_step, Llu.timedOut]

/-- A unit with an order outstanding does not wait, and its timer runs (R119). -/
theorem TUnit.Shaped.ordered {x : TUnit} (h : x.Shaped) {o : UnitOrder} {n : Nat} (ho : x.order = some (o, n)) :
    x.waiting = false ∧ x.timer.isSome = true := by
  obtain ⟨htimer, -⟩ := id h
  refine ⟨Bool.eq_false_iff.2 fun hw => ?_, by rw [htimer, ho]; rfl⟩
  rw [(h.waits hw).1] at ho
  cases ho

/-- An LLU with an order outstanding does not wait, and its timer runs (R143). -/
theorem Llu.Shaped.ordered {x : Llu} (h : x.Shaped) {o : LluOrder} {n : Nat} (ho : x.order = some (o, n)) :
    x.waiting = false ∧ x.timer.isSome = true := by
  obtain ⟨htimer, -⟩ := id h
  refine ⟨Bool.eq_false_iff.2 fun hw => ?_, by rw [htimer, ho]; rfl⟩
  rw [(h.waits hw).1] at ho
  cases ho

theorem TUnit.Shaped.timedOut {x : TUnit} (h : x.Shaped) (hw : x.waiting = false) : x.timedOut.Shaped := by
  obtain ⟨-, hno, -⟩ := h
  refine ⟨rfl, hno, ?_, fun _ => .inr (.inr (.inr rfl)), fun hst => ?_⟩
  · simp only [TUnit.timedOut, TUnit.ended, hw]
    rfl
  · rcases hst with hst | hst <;> cases hst

/-- Only an LLU HOLDING or SETTLING has one of its other two timers running, so a clamping or unclamping one has neither. -/
theorem Llu.Shaped.timedOut {x : Llu} (h : x.Shaped) (hw : x.waiting = false) (hst : x.state = .clamping ∨ x.state = .releasing) :
    x.timedOut.Shaped := by
  obtain ⟨-, hno, -, -, -, hjoin, hsettle⟩ := h
  refine ⟨rfl, hno, ?_, fun _ _ => ⟨hw, rfl⟩, fun _ => rfl, fun hrun => ?_, fun hrun => ?_⟩
  · simp [Llu.timedOut, Llu.ended, hw]
  · rw [hjoin hrun] at hst
    simp at hst
  · rw [hsettle hrun] at hst
    simp at hst

/-- The four expiries that make a unit STUCK, each in its states. -/
theorem exec_unitTimeout {c : Instr} {u : UnitId} {s : State} (ht : (s.unit u).timer.isSome = true)
    (hc : (c = .shiftTimeout u ∧ (s.unit u).state = .shifting) ∨ (c = .openTimeout u ∧ (s.unit u).state = .opening) ∨
      (c = .raiseMidTimeout u ∧ (s.unit u).state = .liftingOut) ∨
      (c = .raiseParkTimeout u ∧ ((s.unit u).state = .raising ∨ (s.unit u).state = .retreating))) :
    exec c s = .next (unitStuck u s) := by
  rcases hc with ⟨rfl, hst⟩ | ⟨rfl, hst⟩ | ⟨rfl, hst⟩ | ⟨rfl, hst | hst⟩ <;>
    exact congrArg Host.Outcome.next (if_pos (by simp [TUnit.timed, hst, ht]))

theorem exec_clampTimeout {c : Instr} {s : State} (ht : s.llu.timer.isSome = true)
    (hc : (c = .clampTimeout ∧ s.llu.state = .clamping) ∨ (c = .unclampTimeout ∧ s.llu.state = .releasing)) :
    exec c s = .next (unitEvent (clampFailed s)) := by
  rcases hc with ⟨rfl, hst⟩ | ⟨rfl, hst⟩ <;>
    exact congrArg Host.Outcome.next (if_pos (by simp [Llu.timed, hst, ht]))

end Sys2Proof.Machine

section
open Sys2Proof Sys2Proof.Machine

/-- Settles O50: the motion given up is one change of the state, from which the fault takes its way. -/
theorem timeoutsMakeStuck : Obligations.TimeoutsMakeStuck := by
  unfold Obligations.TimeoutsMakeStuck
  refine ⟨?_, ?_⟩
  · rintro c u s o n ⟨hunits, hllu, -⟩ ho hc
    obtain ⟨hw, ht⟩ := (hunits u).ordered ho
    have hcancels : (s.unit u).cancels u = [.unitCancel u n] := by rw [TUnit.cancels, ho]
    refine ⟨_, exec_unitTimeout ht hc, ?_⟩
    rw [unitStuck, stickUnit_eq, hcancels]
    refine unitEvent_faulted (fun v => ?_) hllu
    by_cases hv : v = u
    · subst hv
      rw [State.unit, Quad.get_set_self]
      exact (hunits v).timedOut hw
    · rw [State.unit, Quad.get_set_of_ne _ _ hv]
      exact hunits v
  · rintro c s o n ⟨hunits, hllu, -⟩ ho hc
    obtain ⟨hw, ht⟩ := hllu.ordered ho
    have hcancels : s.llu.cancels = [.lluCancel n] := by rw [Llu.cancels, ho]
    have hst : s.llu.state = .clamping ∨ s.llu.state = .releasing := hc.imp And.right And.right
    refine ⟨_, exec_clampTimeout ht hc, ?_⟩
    rw [clampFailed_eq, hcancels]
    exact unitEvent_faulted hunits (hllu.timedOut hw hst)

end

namespace Sys2Proof.Machine

/-! ## The tables of a unit (R119) -/

/-- A unit that waits in a motion state, with nothing outstanding and its tines open. -/
theorem TUnit.shaped_waiting {x : TUnit} (hno : x.orderNo ≤ 255) (hw : x.waiting = true) (ho : x.order = none) (ht : x.timer = none)
    (hm : x.state.motion = true) (hc : x.tinesClosed = false) : x.Shaped := by
  refine ⟨by rw [ho, ht]; rfl, hno, by rw [hw, ho]; exact hm, by simp [hc], fun hs => ?_⟩
  rcases hs with hs | hs <;> rw [hs] at hm <;> cases hm

/-- A unit with an order outstanding that its state waits for. -/
theorem TUnit.shaped_ordered {x : TUnit} {o : UnitOrder} (hno : x.orderNo ≤ 255) (hw : x.waiting = false)
    (ho : x.order = some (o, x.orderNo)) (ht : x.timer.isSome = true) (hf : o.fits x.state = true)
    (hc : x.tinesClosed = true ↔ x.state = .squeezing ∨ x.state = .opening) : x.Shaped :=
  ⟨by rw [ho, ht]; rfl, hno, by rw [hw, ho]; exact ⟨hf, rfl⟩, fun h => (hc.1 h).imp id .inl, hc.2⟩

/-- A unit at rest with its tines open. -/
theorem TUnit.shaped_resting {x : TUnit} (hno : x.orderNo ≤ 255) (hw : x.waiting = false) (ho : x.order = none) (ht : x.timer = none)
    (hr : x.state.resting = true) (hc : x.tinesClosed = false) : x.Shaped := by
  refine ⟨by rw [ho, ht]; rfl, hno, by rw [hw, ho]; exact hr, by simp [hc], fun hs => ?_⟩
  rcases hs with hs | hs <;> rw [hs] at hr <;> cases hr

theorem TUnit.Shaped.number_le {x : TUnit} (h : x.Shaped) : x.orderNo ≤ 255 := h.2.1

theorem numberAfter_le {n : Nat} (h : n ≤ 255) : numberAfter n ≤ 255 := by
  unfold numberAfter
  split <;> omega

/-- Only SQUEEZING, OPENING, HELD and STUCK units may have their tines closed (R136). -/
theorem TUnit.Shaped.tinesOpen {x : TUnit} (h : x.Shaped)
    (hst : x.state ≠ .squeezing ∧ x.state ≠ .opening ∧ x.state ≠ .held ∧ x.state ≠ .stuck) : x.tinesClosed = false := by
  obtain ⟨-, -, -, hc, -⟩ := h
  refine Bool.eq_false_iff.2 fun hcl => ?_
  obtain ⟨h1, h2, h3, h4⟩ := hst
  rcases hc hcl with h | h | h | h <;> contradiction

/-- A unit that squeezes or opens its tines waits for no grant, and its tines are closed. -/
theorem TUnit.Shaped.tinesBusy {x : TUnit} (h : x.Shaped) (hst : x.state = .squeezing ∨ x.state = .opening) :
    x.waiting = false ∧ x.tinesClosed = true := by
  obtain ⟨-, -, hmatch, -, hc⟩ := h
  refine ⟨Bool.eq_false_iff.2 fun hw => ?_, hc hst⟩
  rw [hw] at hmatch
  cases ho : x.order <;> rw [ho] at hmatch
  · rcases hst with hst | hst <;> rw [hst] at hmatch <;> cases hmatch
  · exact hmatch

/-- The result, the settings and the marks are not part of the table. -/
theorem TUnit.Shaped.noting {x : TUnit} (h : x.Shaped) (f : UnitResult → UnitResult) : (x.noting f).Shaped := h

/-- A unit with its tines open may enter a motion state (R122). -/
theorem TUnit.Shaped.asks {x : TUnit} (h : x.Shaped) {st : UnitState} (hst : st.motion = true) (hc : x.tinesClosed = false) :
    (x.ended.asks st).Shaped := TUnit.shaped_waiting h.number_le rfl rfl rfl hst hc

/-- A unit whose tines are closed opens them (R130, R135). -/
theorem TUnit.Shaped.sentOpening {x : TUnit} (h : x.Shaped) (hw : x.waiting = false) (hc : x.tinesClosed = true) :
    x.sentOpening.Shaped :=
  TUnit.shaped_ordered (numberAfter_le h.number_le) hw rfl rfl rfl (by simp [TUnit.sentOpening, hc])

/-- A PARKED unit takes the settings of an entry (R123). -/
theorem TUnit.Shaped.activated {x : TUnit} (h : x.Shaped) (hp : x.state = .parked) (g : UnitSettings) : (x.activated g).Shaped := by
  obtain ⟨hw, ho, ht⟩ := h.rests (by rw [hp]; rfl)
  have hc := h.tinesOpen (by simp [hp])
  by_cases hm : g.mask = 0
  · exact TUnit.shaped_resting h.number_le (by simp [TUnit.activated, hm, hw]) ho ht (by simp [TUnit.activated, hm, hp, UnitState.resting]) hc
  · exact TUnit.shaped_waiting h.number_le (by simp [TUnit.activated, hm]) ho ht (by simp [TUnit.activated, hm, UnitState.motion]) hc

/-- The work order keeps the table (R125). -/
theorem TUnit.Shaped.toldToWork {x : TUnit} (h : x.Shaped) : x.toldToWork.Shaped := by
  unfold TUnit.toldToWork
  split
  · next hc =>
    obtain ⟨-, ho, ht⟩ := h.rests (by rw [hc.2.2]; rfl)
    exact TUnit.shaped_waiting h.number_le rfl ho ht rfl (h.tinesOpen (by simp [hc.2.2]))
  · split <;> exact h

/-- An INSERTED unit squeezes (R129). -/
theorem TUnit.Shaped.squeezes {x : TUnit} (h : x.Shaped) (hw : x.waiting = false) (o : Int) (ms : Nat) :
    TUnit.Shaped { x.ordered (.squeeze o) ms with state := .squeezing, tinesClosed := true } :=
  TUnit.shaped_ordered (numberAfter_le h.number_le) hw rfl rfl rfl (by simp)

/-- A retreat order keeps the table (R135). -/
theorem TUnit.Shaped.retreated {x : TUnit} (h : x.Shaped) (p inWork : Bool) : (x.retreated p inWork).Shaped := by
  have up (hc : x.tinesClosed = false) : (x.marked inWork).sentUp.Shaped := TUnit.shaped_waiting h.number_le rfl rfl rfl rfl hc
  have opens (hw : x.waiting = false) (hc : x.tinesClosed = true) : (x.marked inWork).sentOpening.Shaped :=
    (h.marked inWork).sentOpening hw hc
  unfold TUnit.retreated
  dsimp only
  split
  case h_1 => exact h
  case h_2 hst | h_3 hst => exact TUnit.shaped_resting h.number_le rfl rfl rfl rfl (h.tinesOpen (by simp [hst]))
  case h_4 hst | h_5 hst | h_6 hst | h_7 hst => exact up (h.tinesOpen (by simp [hst]))
  case h_8 hst =>
    obtain ⟨hw, hc⟩ := h.tinesBusy (.inl hst)
    exact opens hw hc
  case h_9 | h_10 | h_11 => exact h.marked inWork
  case h_12 hst =>
    split
    · exact up (h.tinesOpen (by simp [hst]))
    · exact h
  case h_13 hst =>
    obtain ⟨hw, -⟩ := h.rests (by rw [hst]; rfl)
    split
    · exact h
    · split
      · next hc => exact opens hw hc
      · next hc => exact up (Bool.eq_false_iff.2 hc)

/-- After a retreat order no unit squeezes, and a PARKED unit is PARKED still. -/
theorem TUnit.retreated_state (p inWork : Bool) (x : TUnit) :
    (x.retreated p inWork).state ≠ .squeezing ∧ (x.state = .parked → (x.retreated p inWork).state = .parked) := by
  unfold TUnit.retreated
  cases hst : x.state <;> cases p <;> cases hc : x.tinesClosed <;> simp [TUnit.sentUp, TUnit.sentOpening, hst]

/-- The release of the stop line keeps the table (R139). -/
theorem TUnit.Shaped.resumed {x : TUnit} (h : x.Shaped) : x.resumed.Shaped := by
  unfold TUnit.resumed
  split
  · exact h
  · next hst =>
    rw [not_not] at hst
    obtain ⟨hw, ho, ht⟩ := h.rests (by rw [hst]; rfl)
    split
    · next hc => exact h.sentOpening hw hc
    · next hc => exact TUnit.shaped_waiting h.number_le rfl ho ht rfl (Bool.eq_false_iff.2 hc)

/-! ## The table of the LLU (R143) -/

theorem Llu.Shaped.number_le {x : Llu} (h : x.Shaped) : x.orderNo ≤ 255 := h.2.1

/-- The join-hold timer runs in HOLDING alone (R154). -/
theorem Llu.Shaped.noJoinHold {x : Llu} (h : x.Shaped) (hst : x.state ≠ .holding) : x.joinHold = none := by
  obtain ⟨-, -, -, -, -, hj, -⟩ := h
  exact Option.not_isSome_iff_eq_none.1 fun hs => hst (hj hs)

/-- The settle timer runs in SETTLING alone (R155). -/
theorem Llu.Shaped.noSettle {x : Llu} (h : x.Shaped) (hst : x.state ≠ .settling) : x.settle = none := by
  obtain ⟨-, -, -, -, -, -, hs⟩ := h
  exact Option.not_isSome_iff_eq_none.1 fun h => hst (hs h)

/-- An LLU that waits for a grant, or has an order, is under a retreat in RELEASING alone (R158). -/
theorem Llu.Shaped.noRetreat {x : Llu} (h : x.Shaped) (hst : x.state ≠ .releasing) (hb : x.waiting = true ∨ x.order.isSome = true) :
    x.retreat = false := by
  obtain ⟨-, -, -, hr, -⟩ := h
  refine Bool.eq_false_iff.2 fun hret => ?_
  obtain ⟨hw, ho⟩ := hr hret hst
  simp [hw, ho] at hb

theorem Llu.Shaped.openNoRetreat {x : Llu} (h : x.Shaped) (hst : x.state = .isOpen ∨ x.state = .settling) : x.retreat = false := by
  obtain ⟨-, -, -, -, ho, -⟩ := h
  exact ho hst

/-- An LLU that waits for nothing and has nothing outstanding. -/
theorem Llu.shaped_quiet {x : Llu} (hno : x.orderNo ≤ 255) (hw : x.waiting = false) (ho : x.order = none) (ht : x.timer = none)
    (hst : x.state ≠ .releasing) (hr : x.state = .isOpen ∨ x.state = .settling → x.retreat = false)
    (hj : x.joinHold.isSome = true → x.state = .holding) (hs : x.settle.isSome = true → x.state = .settling) : x.Shaped :=
  ⟨by rw [ho, ht]; rfl, hno, by rw [hw, ho]; exact hst, fun _ _ => ⟨hw, ho⟩, hr, hj, hs⟩

/-- An LLU that waits for its grant in CLAMPING, outside a retreat, or in RELEASING. -/
theorem Llu.shaped_waiting {x : Llu} (hno : x.orderNo ≤ 255) (hw : x.waiting = true) (ho : x.order = none) (ht : x.timer = none)
    (hst : (x.state = .clamping ∧ x.retreat = false) ∨ x.state = .releasing) (hj : x.joinHold = none) (hs : x.settle = none) :
    x.Shaped := by
  refine ⟨by rw [ho, ht]; rfl, hno, by rw [hw, ho]; exact hst.imp And.left id, fun hr hn => ?_, fun hopen => ?_, by simp [hj], by simp [hs]⟩
  · rcases hst with ⟨-, hf⟩ | hrel
    · simp [hf] at hr
    · exact absurd hrel hn
  · rcases hst with ⟨-, hf⟩ | hrel
    · exact hf
    · simp [hrel] at hopen

/-- An LLU with an order outstanding that its state waits for. -/
theorem Llu.shaped_ordered {x : Llu} {o : LluOrder} (hno : x.orderNo ≤ 255) (hw : x.waiting = false)
    (ho : x.order = some (o, x.orderNo)) (ht : x.timer.isSome = true) (hf : o.fits x.state = true)
    (hst : x.retreat = false ∨ x.state = .releasing) (hj : x.joinHold = none) (hs : x.settle = none) : x.Shaped := by
  refine ⟨by rw [ho, ht]; rfl, hno, by rw [hw, ho]; exact ⟨hf, rfl⟩, fun hr hn => ?_, fun hopen => ?_, by simp [hj], by simp [hs]⟩
  · rcases hst with hst | hst
    · simp [hst] at hr
    · exact absurd hst hn
  · rcases hst with hst | hst
    · exact hst
    · simp [hst] at hopen

/-- The LLU is told to release: it waits for its grant in RELEASING (R155, R159). -/
def Llu.sentReleasing (x : Llu) : Llu := { x with state := .releasing, waiting := true, joinHold := none }

theorem startRelease_step (s : State) : startRelease s = s.lluStep s.llu.sentReleasing (s.arb.request .llu) [] := by
  simp [startRelease, changeLlu_step, arbiter, State.setArb, State.lluStep, Llu.sentReleasing]

theorem Llu.Shaped.sentReleasing {x : Llu} (h : x.Shaped) (ho : x.order = none) (hst : x.state ≠ .settling) :
    x.sentReleasing.Shaped := by
  obtain ⟨htimer, -⟩ := id h
  have ht : x.timer = none := by simpa [ho] using htimer
  exact Llu.shaped_waiting h.number_le rfl ho ht (.inr rfl) rfl (h.noSettle hst)

/-- A retreat order keeps the table (R158). -/
theorem Llu.Shaped.retreated {x : Llu} (h : x.Shaped) (p : Bool) : (x.retreated p).Shaped := by
  have hno := h.number_le
  have stays (hst : x.state ≠ .clamping ∧ x.state ≠ .lifting ∧ x.state ≠ .releasing) (hopen : x.state ≠ .isOpen ∧ x.state ≠ .settling) :
      Llu.Shaped { x with retreat := true, joinHold := none, settle := none } := by
    obtain ⟨hw, ho, ht⟩ := h.rests hst
    exact Llu.shaped_quiet hno hw ho ht hst.2.2 (by simp [hopen]) (by simp) (by simp)
  unfold Llu.retreated
  dsimp only
  split
  case h_1 | h_2 => exact Llu.shaped_quiet hno rfl rfl rfl (by simp) (by simp) (by simp) (by simp)
  case h_3 hst => split <;> exact Llu.shaped_quiet hno rfl rfl rfl (by simp [hst]) (by simp [hst]) (by simp) (by simp)
  case h_4 hst | h_5 hst | h_6 hst => exact Llu.shaped_quiet hno rfl rfl rfl (by simp [hst]) (by simp [hst]) (by simp) (by simp)
  case h_7 hst =>
    obtain ⟨htimer, -, hmatch, -⟩ := h
    exact ⟨htimer, hno, hmatch, fun _ hn => absurd hst hn, by simp [hst], by simp, by simp⟩
  case h_8 hst => exact stays (by simp [hst]) (by simp [hst])
  case h_9 hst | h_10 hst =>
    split
    · exact stays (by simp [hst]) (by simp [hst])
    · exact h

/-- After a retreat order the join-hold timer is stopped. -/
theorem Llu.Shaped.retreated_joinHold {x : Llu} (h : x.Shaped) (p : Bool) : (x.retreated p).joinHold = none := by
  unfold Llu.retreated
  dsimp only
  split
  case h_3 => split <;> rfl
  case h_9 hst | h_10 hst =>
    split
    · rfl
    · exact h.noJoinHold (by simp [hst])
  all_goals rfl

/-- The release of the stop line keeps the table (R160). -/
theorem Llu.Shaped.lineReleased {x : Llu} (h : x.Shaped) : x.lineReleased.Shaped := by
  unfold Llu.lineReleased
  split
  · exact h
  · next hst =>
    rw [not_not] at hst
    obtain ⟨hw, ho, ht⟩ := h.rests (by simp [hst])
    have hj := h.noJoinHold (by simp [hst])
    have hs := h.noSettle (by simp [hst])
    split <;> exact Llu.shaped_quiet h.number_le hw ho ht (by simp [hst]) (by simp [hst]) (by simp [hj]) (by simp [hs])

end Sys2Proof.Machine

namespace Sys2Proof.Machine

/-! ## What the workhead's invariant reads besides the units and the LLU -/

@[simp] theorem Link.place_restartPending (l : Link) (r : Report) : (l.place r).restartPending = l.restartPending := by
  unfold Link.place
  split <;> rfl

@[simp] theorem Link.begin_restartPending (l : Link) : l.begin.restartPending = l.restartPending := by
  unfold Link.begin
  split
  · rfl
  · split
    · rfl
    · split
      · rfl
      · split <;> rfl

@[simp] theorem place_restartPending (r : Report) (s : State) : (place r s).link.restartPending = s.link.restartPending :=
  Link.place_restartPending _ _

@[simp] theorem reportJob_restartPending (s : State) : (reportJob s).link.restartPending = s.link.restartPending :=
  place_restartPending _ _

@[simp] theorem conclude_restartPending (s : State) : (conclude s).link.restartPending = s.link.restartPending := by
  simp [conclude, startSending]

@[simp] theorem answer_restartPending (f : Frame) (a : Answer) (s : State) :
    (answer f a s).link.restartPending = s.link.restartPending := by
  simp [answer, startSending, Link.reply]

@[simp] theorem finishActive_restartPending (final : SlotState) (residual : Option (Int × Int)) (missing : Bool)
    (fault : Option FaultCode) (s : State) :
    (finishActive final residual missing fault s).link.restartPending = s.link.restartPending := by
  unfold finishActive
  split <;> simp

/-- An entry is at work when a slot is ACTIVE or FAULTED. -/
theorem entryInWork_iff (s : State) : s.entryInWork = true ↔ ∃ x ∈ s.queue.slots, x.state.working = true := by
  simp [State.entryInWork, WorkQueue.activePos]

theorem NoneWorking.notInWork {s : State} (h : NoneWorking s.queue) : s.entryInWork = false := by
  rw [State.entryInWork, WorkQueue.activePos_none.2 h]
  rfl

/-- The job's state, phase and done marks and whether an entry is at work are as they were, and neither a self-test nor a restart
has begun. -/
def SameTask (s t : State) : Prop :=
  t.job.state = s.job.state ∧ t.job.phase = s.job.phase ∧ t.job.done = s.job.done ∧ t.entryInWork = s.entryInWork ∧
  (t.test.running = true → s.test.running = true) ∧ (t.link.restartPending = true → s.link.restartPending = true)

theorem SameTask.of_blocks {s t : State} (hj : t.job = s.job) (hq : t.queue = s.queue) (ht : t.test = s.test)
    (hl : t.link.restartPending = s.link.restartPending) : SameTask s t := by
  rw [SameTask, State.entryInWork, hj, hq, ht, hl]
  exact ⟨rfl, rfl, rfl, rfl, id, id⟩

theorem SameTask.atWork {s t : State} (h : SameTask s t) (u : UnitId) : t.atWork u = s.atWork u := by
  obtain ⟨-, hp, hd, he, -⟩ := h
  rw [State.atWork, State.atWork, hp, hd, he]

theorem SameTask.idleHeld {s t : State} (h : SameTask s t) (hi : IdleHeld s) : IdleHeld t := by
  obtain ⟨hs, -, -, -, ht, hl⟩ := h
  obtain ⟨htest, hrestart⟩ := hi
  exact ⟨fun hr => hs.trans (htest (ht hr)), fun hr => hs.trans (hrestart (hl hr))⟩

/-! ## What keeps the workhead sound -/

/-- The workhead stays sound when its parts keep their tables, no PARKED unit leaves its place, the join hold is not started, and no
unit squeezes off demand. -/
theorem WorkheadSound.kept {s t : State} (h : WorkheadSound s) (hk : SameTask s t) (hu : ∀ u, (t.unit u).Shaped) (hl : t.llu.Shaped)
    (hp : ∀ u, (s.unit u).state = .parked → (t.unit u).state = .parked)
    (hj : t.llu.joinHold.isSome = true → s.llu.joinHold.isSome = true)
    (hg : ∀ u, (t.unit u).state = .squeezing → t.llu.state = .atDemand ∨ t.llu.state = .holding) : WorkheadSound t := by
  obtain ⟨-, -, hrest, hidle, hjoin, -⟩ := h
  obtain ⟨hs, hph, -, he, -⟩ := id hk
  refine ⟨hu, hl, fun hr u hw => hp u (hrest (hs ▸ hr) u (hk.atWork u ▸ hw)), hk.idleHeld hidle, fun hrun => ?_, hg⟩
  rw [hs, hph, he]
  exact hjoin (hj hrun)

/-- The blocks of the workhead and what its invariant reads besides are as they were. -/
theorem WorkheadSound.congr {s t : State} (h : WorkheadSound s) (hu : t.units = s.units) (hl : t.llu = s.llu) (hk : SameTask s t) :
    WorkheadSound t := by
  have hunit : ∀ u, t.unit u = s.unit u := fun u => by rw [State.unit, hu]; rfl
  obtain ⟨hunits, hllu, -, -, -, hgate⟩ := id h
  exact h.kept hk (fun u => hunit u ▸ hunits u) (hl ▸ hllu) (fun u hp => (hunit u).symm ▸ hp) (by rw [hl]; exact id)
    fun u hsq => hl ▸ hgate u (hunit u ▸ hsq)

/-- One unit changes. -/
theorem WorkheadSound.unitStep {s : State} (h : WorkheadSound s) {u : UnitId} {x : TUnit} {a : Arbiter} {orders : List FieldOrder}
    (hx : x.Shaped) (hp : (s.unit u).state = .parked → x.state = .parked)
    (hg : x.state = .squeezing → s.llu.state = .atDemand ∨ s.llu.state = .holding) : WorkheadSound (s.unitStep u x a orders) := by
  obtain ⟨hunits, hllu, -, -, -, hgate⟩ := id h
  have hself : (s.unitStep u x a orders).unit u = x := Quad.get_set_self ..
  have hother (v : UnitId) (hv : v ≠ u) : (s.unitStep u x a orders).unit v = s.unit v := Quad.get_set_of_ne _ _ hv
  refine h.kept (.of_blocks rfl rfl rfl rfl) (fun v => ?_) hllu (fun v hpv => ?_) id fun v hsq => ?_ <;> by_cases hv : v = u
  · rw [hv, hself]; exact hx
  · rw [hother v hv]; exact hunits v
  · rw [hv] at hpv ⊢; rw [hself]; exact hp hpv
  · rw [hother v hv]; exact hpv
  · rw [hv, hself] at hsq; exact hg hsq
  · rw [hother v hv] at hsq; exact hgate v hsq

/-- The LLU changes, staying at demand for the units that squeeze. -/
theorem WorkheadSound.lluChanged {s t : State} (h : WorkheadSound s) (hu : t.units = s.units) (hk : SameTask s t) (hl : t.llu.Shaped)
    (hj : t.llu.joinHold.isSome = true → s.llu.joinHold.isSome = true)
    (hg : ∀ u, (s.unit u).state = .squeezing → t.llu.state = .atDemand ∨ t.llu.state = .holding) : WorkheadSound t := by
  have hunit : ∀ u, t.unit u = s.unit u := fun u => by rw [State.unit, hu]; rfl
  obtain ⟨hunits, -⟩ := id h
  exact h.kept hk (fun u => hunit u ▸ hunits u) hl (fun u hp => (hunit u).symm ▸ hp) hj fun u hsq => hg u (hunit u ▸ hsq)

/-- The LLU changes off demand, where no unit squeezes (R129). -/
theorem WorkheadSound.lluChanged_offDemand {s t : State} (h : WorkheadSound s) (hu : t.units = s.units) (hk : SameTask s t)
    (hl : t.llu.Shaped) (hj : t.llu.joinHold.isSome = true → s.llu.joinHold.isSome = true)
    (hoff : s.llu.state ≠ .atDemand ∧ s.llu.state ≠ .holding) : WorkheadSound t := by
  obtain ⟨-, -, -, -, -, hgate⟩ := id h
  refine h.lluChanged hu hk hl hj fun u hsq => ?_
  rcases hgate u hsq with hst | hst
  · exact absurd hst hoff.1
  · exact absurd hst hoff.2

/-- While the job is IDLE nothing but the units and the LLU counts. -/
theorem WorkheadSound.whileIdle {s t : State} (h : WorkheadSound s) (hs : s.job.state = .idle) (ht : t.job.state = .idle)
    (hu : t.units = s.units) (hl : t.llu = s.llu) : WorkheadSound t := by
  have hunit : ∀ u, t.unit u = s.unit u := fun u => by rw [State.unit, hu]; rfl
  obtain ⟨hunits, hllu, -, -, hjoin, hgate⟩ := h
  refine ⟨fun u => hunit u ▸ hunits u, hl ▸ hllu, fun hr => by simp [ht] at hr, ⟨fun _ => ht, fun _ => ht⟩, fun hrun => ?_,
    fun u hsq => hl ▸ hgate u (hunit u ▸ hsq)⟩
  obtain ⟨hrunning, -⟩ := hjoin (hl ▸ hrun)
  simp [hs] at hrunning

/-! ## The retreat (R38, R159) -/

theorem startRelease_workhead {s : State} (h : WorkheadSound s) (ho : s.llu.order = none) (hst : s.llu.state ≠ .settling)
    (hn : ∀ u, (s.unit u).state ≠ .squeezing) : WorkheadSound (startRelease s) := by
  obtain ⟨-, hl, -⟩ := id h
  rw [startRelease_step]
  exact h.lluChanged rfl (.of_blocks rfl rfl rfl rfl) (hl.sentReleasing ho hst) (fun hrun => by cases hrun)
    fun u hsq => absurd hsq (hn u)

/-- The LLU releases with every unit PARKED, and under its retreat mark it has nothing outstanding. -/
theorem lluRetreatRelease_workhead {s : State} (h : WorkheadSound s) : WorkheadSound (lluRetreatRelease s) := by
  unfold lluRetreatRelease
  split
  · next hc =>
    simp only [Bool.and_eq_true, allParked_iff] at hc
    obtain ⟨⟨⟨hr, hw⟩, hparked⟩, -⟩ := hc
    obtain ⟨-, ⟨-, -, -, hret, -⟩, -⟩ := id h
    refine startRelease_workhead h (hret hr ?_).2 ?_ (fun u => by simp [hparked u]) <;>
      (intro hst; rw [hst] at hw; cases hw)
  · exact h

theorem endRetreat_workhead {s : State} (h : WorkheadSound s) : WorkheadSound (endRetreat s) :=
  h.congr (by simp) (by simp) (.of_blocks (by simp) (by simp) (by simp) (by simp))

theorem followRetreat_workhead {s : State} (h : WorkheadSound s) : WorkheadSound (followRetreat s) :=
  endRetreat_workhead (lluRetreatRelease_workhead h)

theorem conclude_workhead {s : State} (h : WorkheadSound s) : WorkheadSound (conclude s) :=
  h.congr (by simp) (by simp) (.of_blocks (by simp) (by simp) (by simp) (by simp))

/-- What ends an event keeps the workhead sound. -/
theorem unitEvent_workhead {s : State} (h : WorkheadSound s) : WorkheadSound (unitEvent s) :=
  conclude_workhead (followRetreat_workhead h)

/-- After a retreat order the workhead is sound, whatever the units and the LLU were doing: the job neither runs nor is paused. -/
theorem commonRetreat_workhead {p : Bool} {s : State} (hu : ∀ u, (s.unit u).Shaped) (hl : s.llu.Shaped) (hi : IdleHeld s)
    (hj : s.job.state = .idle ∨ s.job.state = .halted) : WorkheadSound (commonRetreat p s) := by
  have hunit (u : UnitId) : (s.retreating p).unit u = (s.unit u).retreated p s.entryInWork := Quad.get_map ..
  rw [commonRetreat_eq hu hl]
  refine followRetreat_workhead ⟨fun u => ?_, hl.retreated p, fun hr => ?_, hi, fun hrun => ?_, fun u hsq => ?_⟩
  · rw [hunit]
    exact (hu u).retreated p _
  · have hr : s.job.state = .running ∨ s.job.state = .paused := hr
    rcases hj with hj | hj <;> simp [hj] at hr
  · have hnone : (s.retreating p).llu.joinHold = none := hl.retreated_joinHold p
    simp [hnone] at hrun
  · rw [hunit] at hsq
    exact absurd hsq (TUnit.retreated_state p _ _).1

/-! ## Faults (R26, R37) -/

theorem halt_workhead {code : FaultCode} {source : FaultSource} {s : State} (h : WorkheadSound s)
    (hs : s.job.state = .running ∨ s.job.state = .paused) : WorkheadSound (halt code source s) := by
  obtain ⟨hu, hl, -, ⟨htest, hrestart⟩, -⟩ := h
  have hidle : s.job.state ≠ .idle := by rcases hs with hs | hs <;> simp [hs]
  have hi : IdleHeld (s.haltBegun code source) := by
    refine ⟨fun ht => absurd (htest ht) hidle, fun hr => absurd (hrestart ?_) hidle⟩
    rwa [State.haltBegun, Link.place_restartPending] at hr
  rw [halt_eq]
  exact commonRetreat_workhead hu hl hi (.inr rfl)

theorem recordFurther_workhead {code : FaultCode} {s : State} (h : WorkheadSound s) : WorkheadSound (recordFurther code s) :=
  h.congr rfl rfl ⟨rfl, rfl, rfl, rfl, id, by simp [recordFurther]⟩

theorem raiseFault_workhead {code : FaultCode} {source : FaultSource} {s : State} (h : WorkheadSound s) :
    WorkheadSound (raiseFault code source s) := by
  unfold raiseFault
  split
  · next hs => exact halt_workhead h (.inl hs)
  · next hs => exact halt_workhead h (.inr hs)
  · exact recordFurther_workhead h
  · exact h

end Sys2Proof.Machine

namespace Sys2Proof.Machine

/-! ## Every unit at park -/

/-- Every unit is PARKED, and the LLU and the IDLE job's privileges are in order: the workhead between two entries (R123). -/
def AllParked (s : State) : Prop := (∀ u, (s.unit u).Shaped ∧ (s.unit u).state = .parked) ∧ s.llu.Shaped ∧ IdleHeld s

/-- With every unit PARKED only the join hold asks anything of the job. -/
theorem AllParked.workhead {s : State} (h : AllParked s)
    (hj : s.llu.joinHold.isSome = true → s.job.state = .running ∧ s.job.phase = some .holding ∧ s.entryInWork = false) :
    WorkheadSound s := by
  obtain ⟨hu, hl, hi⟩ := h
  exact ⟨fun u => (hu u).1, hl, fun _ u _ => (hu u).2, hi, hj, fun u hsq => by simp [(hu u).2] at hsq⟩

theorem WorkheadSound.allParked {s : State} (h : WorkheadSound s) (hp : ∀ u, (s.unit u).state = .parked) : AllParked s := by
  obtain ⟨hu, hl, -, hi, -⟩ := h
  exact ⟨fun u => ⟨hu u, hp u⟩, hl, hi⟩

/-- While the job runs or is paused with no unit at work, every unit is PARKED. -/
theorem WorkheadSound.allParked_atRest {s : State} (h : WorkheadSound s) (hs : s.job.state = .running ∨ s.job.state = .paused)
    (hw : ∀ u, s.atWork u = false) : AllParked s := by
  obtain ⟨-, -, hrest, -⟩ := id h
  exact h.allParked fun u => hrest hs u (hw u)

theorem AllParked.congr {s t : State} (h : AllParked s) (hu : t.units = s.units) (hl : t.llu.Shaped) (hi : IdleHeld t) : AllParked t := by
  have hunit : ∀ u, t.unit u = s.unit u := fun u => by rw [State.unit, hu]; rfl
  exact ⟨fun u => hunit u ▸ h.1 u, hl, hi⟩

/-- A job that runs or is paused has no self-test and no restart under way; so it may go on to any state. -/
theorem IdleHeld.moved {s t : State} (h : IdleHeld s) (hs : s.job.state ≠ .idle) (ht : t.test.running = s.test.running)
    (hl : t.link.restartPending = s.link.restartPending) : IdleHeld t := by
  obtain ⟨htest, hrestart⟩ := h
  exact ⟨fun hr => absurd (htest (ht ▸ hr)) hs, fun hr => absurd (hrestart (hl ▸ hr)) hs⟩

/-! ## Activation (R28, R29) -/

/-- After an activation the units that are not PARKED are the used ones, which are not done. -/
theorem activatedUnits_workhead {s t : State} {g : Quad UnitSettings} (h : AllParked s) (hu : t.units = activatedUnits g s.units)
    (hd : t.job.done = g.map (·.mask == 0)) (hph : ∀ u, t.atWork u = !t.job.done.get u) (hl : t.llu.Shaped) (hi : IdleHeld t)
    (hj : t.llu.joinHold = none) : WorkheadSound t := by
  obtain ⟨hunits, -⟩ := h
  have hunit : ∀ u, t.unit u = (s.unit u).activated (g.get u) := fun u => by rw [State.unit, hu, activatedUnits_get]; rfl
  refine ⟨fun u => ?_, hl, fun _ u hw => ?_, hi, fun hrun => by simp [hj] at hrun, fun u hsq => ?_⟩
  · rw [hunit]
    exact (hunits u).1.activated (hunits u).2 _
  · have hunused : (g.get u).mask = 0 := by simpa [hph, hd] using hw
    rw [hunit, TUnit.activated, if_pos hunused]
    exact (hunits u).2
  · rw [hunit] at hsq
    simp only [TUnit.activated, (hunits u).2] at hsq
    split at hsq <;> cases hsq

/-- An entry is activated with every unit at park. -/
theorem activate_workhead {k : Nat} {x : Slot} {s : State} (h : AllParked s) (hx : s.queue.slots[k]? = some x) :
    WorkheadSound (activate k s) := by
  obtain ⟨-, hl, hi⟩ := id h
  by_cases hst : s.llu.state = .holding
  · rw [activate_chained hx hst]
    have hwork : (s.chained k x).entryInWork = true :=
      (entryInWork_iff _).2 ⟨_, List.mem_of_getElem? (List.getElem?_set_self (List.getElem?_eq_some_iff.1 hx).1), rfl⟩
    obtain ⟨hw, ho, ht⟩ := hl.rests (by simp [hst])
    refine activatedUnits_workhead h rfl rfl (fun u => ?_) ?_ hi rfl
    · simp only [State.atWork, hwork, Bool.true_and]
      simp only [State.chained]
      split <;> rename_i hph <;> revert hph <;> split <;> simp
    · exact Llu.shaped_quiet hl.number_le hw ho ht (by simp [State.chained, hst]) (by simp [State.chained, hst]) (by simp [State.chained])
        (by simp [State.chained, hl.noSettle (show s.llu.state ≠ .settling by simp [hst])])
  · rw [activate_positioned hx hst]
    exact activatedUnits_workhead h rfl rfl (fun u => rfl) hl hi (hl.noJoinHold hst)

end Sys2Proof.Machine

namespace Sys2Proof.Machine

/-! ## The end of an entry's work (R31, R153, R155) -/

/-- No entry is both joined to the next and the last (R10). -/
theorem WorkQueue.Ordered.notJoinedEnd {q : WorkQueue} (h : q.Ordered) {x : Slot} (hx : x ∈ q.slots) :
    ¬ (x.entry.joinedNext = true ∧ x.entry.isEnd = true) := by
  obtain ⟨-, -, hslots, -⟩ := h
  obtain ⟨-, -, -, -, hjoin, -⟩ := hslots x hx
  exact hjoin

/-- When the work has ended every unit is PARKED, and the LLU is at demand. -/
theorem WorkheadSound.allParked_workEnded {s : State} (h : WorkheadSound s) (hw : s.workEnded = true) :
    AllParked s ∧ (s.llu.state = .atDemand ∨ s.llu.state = .holding) := by
  simp only [State.workEnded, Bool.and_eq_true, beq_iff_eq, State.gateOpen, Llu.atDemandOrHolding, Bool.or_eq_true] at hw
  obtain ⟨⟨⟨hs, hp⟩, hd⟩, hg⟩ := hw
  refine ⟨h.allParked_atRest (.inl hs) fun u => ?_, hg⟩
  simpa [State.atWork, hp] using (Quad.all_iff _ _).1 hd u

/-- An LLU at demand holds, with its join-hold timer (R153, R154). -/
theorem finishHeld_llu {s : State} (hg : s.llu.state = .atDemand ∨ s.llu.state = .holding) :
    (finishHeld s).llu = { s.llu with state := .holding, joinHold := some s.params.joinHold } := by
  have hgate : s.llu.atDemandOrHolding = true := by simpa [Llu.atDemandOrHolding] using hg
  simp [finishHeld, lluHold, hgate]

theorem finishHeld_allParked {s : State} (h : AllParked s) (hs : s.job.state = .running)
    (hg : s.llu.state = .atDemand ∨ s.llu.state = .holding) : AllParked (finishHeld s) := by
  obtain ⟨-, hl, hi⟩ := id h
  obtain ⟨hw, ho, ht⟩ := hl.rests (by rcases hg with hg | hg <;> simp [hg])
  have hset : s.llu.settle = none := hl.noSettle (by rcases hg with hg | hg <;> simp [hg])
  refine h.congr (by simp) ?_ (hi.moved (by simp [hs]) (by simp) ?_)
  · rw [finishHeld_llu hg]
    exact Llu.shaped_quiet hl.number_le hw ho ht (by simp) (by simp) (by simp) (by simp [hset])
  · simp [finishHeld]

/-- The held track waits with its join hold, and no entry is at work (R154). -/
theorem finishHeld_workhead {s : State} (hq : s.queue.Ordered) (h : AllParked s) (hs : s.job.state = .running)
    (hg : s.llu.state = .atDemand ∨ s.llu.state = .holding) : WorkheadSound (finishHeld s) :=
  (finishHeld_allParked h hs hg).workhead fun _ =>
    ⟨(finishHeld_job s).trans hs, rfl, NoneWorking.notInWork (finishHeld_atRest hq).2⟩

/-- An LLU at demand takes the release order (R155). -/
theorem lluRelease_llu {s : State} (hg : s.llu.state = .atDemand ∨ s.llu.state = .holding) : (lluRelease s).llu = s.llu.sentReleasing := by
  have hgate : s.llu.atDemandOrHolding = true := by simpa [Llu.atDemandOrHolding] using hg
  rw [lluRelease, if_pos hgate]
  rfl

/-- With every unit at park an LLU at demand may release, whatever the phase. -/
theorem AllParked.released {s t : State} (h : AllParked s) (hg : s.llu.state = .atDemand ∨ s.llu.state = .holding)
    (hu : t.units = s.units) (hl : t.llu = s.llu.sentReleasing) (hi : IdleHeld t) : WorkheadSound t := by
  obtain ⟨-, hshape, -⟩ := id h
  obtain ⟨-, ho, -⟩ := hshape.rests (by rcases hg with hg | hg <;> simp [hg])
  have hshape : t.llu.Shaped := hl ▸ hshape.sentReleasing ho (by rcases hg with hg | hg <;> simp [hg])
  exact (h.congr hu hshape hi).workhead fun hrun => by simp [hl, Llu.sentReleasing] at hrun

theorem beginRelease_workhead {s : State} (h : AllParked s) (hs : s.job.state = .running)
    (hg : s.llu.state = .atDemand ∨ s.llu.state = .holding) : WorkheadSound (beginRelease s) := by
  obtain ⟨-, -, hi⟩ := id h
  have hl : (beginRelease s).llu = s.llu.sentReleasing := by simp [beginRelease, lluRelease_llu (s := s.setEngine s.engine.close) hg]
  exact h.released hg (by simp) hl (hi.moved (by simp [hs]) (by simp) (by simp))

/-- The end of work keeps the workhead sound, however many continuations it runs through. -/
theorem endOfWork_workhead (n : Nat) {s : State} (hq : QueueSound s) (h : WorkheadSound s) : WorkheadSound (endOfWork n s) := by
  induction n generalizing s with
  | zero => exact h
  | succ n ih =>
    unfold endOfWork
    split
    · next hw =>
      have hs := State.workEnded_running hw
      obtain ⟨hparked, hg⟩ := h.allParked_workEnded hw
      have hrest := finishHeld_atRest hq.1
      split
      · exact h
      · next x hx =>
        split
        · next hjoined =>
          split
          · next hend => exact absurd (And.intro hjoined hend) (WorkQueue.Ordered.notJoinedEnd hq.1 (List.mem_of_find?_eq_some hx))
          · split
            · next k hk =>
              obtain ⟨y, hy, -⟩ := WorkQueue.readyPos_eq_some.1 hk
              exact ih (activate_ready_queueSound hrest hk ((finishHeld_job s).trans hs))
                (activate_workhead (finishHeld_allParked hparked hs hg) hy)
            · exact finishHeld_workhead hq.1 hparked hs hg
        · exact beginRelease_workhead hparked hs hg
    · exact h

theorem testEndOfWork_workhead {s : State} (hq : QueueSound s) (h : WorkheadSound s) : WorkheadSound (testEndOfWork s) :=
  endOfWork_workhead _ hq h

/-- The oldest READY entry is activated with every unit at park and no entry at work. -/
theorem activateSlot_workhead {k : Nat} {s : State} (hq : s.queue.AtRest) (hs : s.job.state = .running) (h : AllParked s)
    (hk : s.queue.readyPos = some k) : WorkheadSound (activateSlot k s) := by
  obtain ⟨x, hx, -⟩ := WorkQueue.readyPos_eq_some.1 hk
  exact testEndOfWork_workhead (activate_ready_queueSound hq hk hs) (activate_workhead h hx)

/-! ## Going on after a finish (R32) -/

theorem completeJob_workhead {s : State} (h : AllParked s) (hj : s.llu.joinHold = none) : WorkheadSound (completeJob s) := by
  obtain ⟨-, hl, hi⟩ := id h
  have hidle : (completeJob s).job.state = .idle := by simp [completeJob]
  exact (h.congr (by simp) (by simpa using hl) ⟨fun _ => hidle, fun _ => hidle⟩).workhead fun hrun => by simp [hj] at hrun

theorem pauseAtFinish_workhead {s : State} (h : AllParked s) (hs : s.job.state = .running) (hj : s.llu.joinHold = none) :
    WorkheadSound (pauseAtFinish s) := by
  obtain ⟨-, hl, hi⟩ := id h
  refine (h.congr (by simp) (by simpa using hl) (hi.moved (by simp [hs]) (by simp) ?_)).workhead fun hrun => by simp [hj] at hrun
  simp [pauseAtFinish]

theorem starve_workhead {s : State} (h : AllParked s) (hj : s.llu.joinHold = none) : WorkheadSound (starve s) := by
  obtain ⟨-, hl, hi⟩ := id h
  have hi' : IdleHeld (starve s) := by simpa [IdleHeld, starve, setPhase] using hi
  exact (h.congr (by simp) (by simpa using hl) hi').workhead fun hrun => by simp [hj] at hrun

theorem nextOrStarve_workhead {s : State} (hq : s.queue.AtRest) (hs : s.job.state = .running) (h : AllParked s)
    (hj : s.llu.joinHold = none) : WorkheadSound (nextOrStarve s) := by
  unfold nextOrStarve
  split
  · next hk => exact activateSlot_workhead hq hs h hk
  · exact starve_workhead h hj

theorem pauseOrNext_workhead {s : State} (hq : s.queue.AtRest) (hs : s.job.state = .running) (h : AllParked s)
    (hj : s.llu.joinHold = none) : WorkheadSound (pauseOrNext s) := by
  unfold pauseOrNext
  split
  · exact pauseAtFinish_workhead h hs hj
  · exact nextOrStarve_workhead hq hs h hj

theorem finishTests_workhead {skipped : Bool} {e : Entry} {s : State} (hq : s.queue.AtRest) (hs : s.job.state = .running)
    (h : AllParked s) (hj : s.llu.joinHold = none) : WorkheadSound (finishTests skipped e s) := by
  unfold finishTests
  split
  · exact completeJob_workhead h hj
  · split
    · split
      · next hk => exact activateSlot_workhead hq hs h hk
      · exact h.workhead fun hrun => by simp [hj] at hrun
    · exact pauseOrNext_workhead hq hs h hj

/-- The LLU is OPEN at the end of a release, and the job goes on with every unit at park (R32, R34). -/
theorem lluReportsOpen_workhead {r : Option (Int × Int)} {s : State} (hq : QueueSound s) (h : WorkheadSound s)
    (hj : s.llu.joinHold = none) : WorkheadSound (lluReportsOpen r s) := by
  unfold lluReportsOpen
  split
  · next hc =>
    obtain ⟨hs, hp⟩ := hc
    have hparked : AllParked s := h.allParked_atRest (.inl hs) fun u => by simp [State.atWork, hp]
    obtain ⟨-, hl, hi⟩ := id hparked
    have hne : s.job.state ≠ .idle := by simp [hs]
    split
    · refine finishTests_workhead (by simpa using finishActive_atRest hq.1 (workedFinal_finished s)) (by simp [baseToTarget, hs]) ?_
        (by simpa using hj)
      exact hparked.congr (by simp) (by simpa using hl) (hi.moved hne (by simp) (by simp))
    · next hn =>
      refine pauseOrNext_workhead (writeHeldResidual_atRest (hq.atRest_of_noActive (WorkQueue.activeSlot_none.1 hn)))
        (by simpa using hs) ?_ (by simpa using hj)
      exact hparked.congr (by simp) (by simpa using hl) (hi.moved hne (by simp) (by simp))
  · exact h

/-- The join hold runs with no unit at work, so its expiry finds every unit at park (R34, R154). -/
theorem giveUpHold_workhead {s : State} (h : WorkheadSound s) (hst : s.llu.state = .holding) (hrun : s.llu.joinHold.isSome = true) :
    WorkheadSound (giveUpHold s) := by
  obtain ⟨-, -, -, -, hjoin, -⟩ := id h
  obtain ⟨hs, hp, hw⟩ := hjoin hrun
  have hparked : AllParked s := h.allParked_atRest (.inl hs) fun u => by simp [State.atWork, hp, hw]
  obtain ⟨-, -, hi⟩ := id hparked
  have hl : (giveUpHold s).llu = s.llu.sentReleasing :=
    lluRelease_llu (s := setPhase (some .releasing) (s.setEngine s.engine.expire)) (.inr hst)
  exact hparked.released (.inr hst) (by simp) hl (hi.moved (by simp [hs]) (by simp) (by simp))

/-- A load that Job Control acts on finds every unit at park (R33). -/
theorem entryLoaded_workhead {s : State} (hq : QueueSound s) (h : WorkheadSound s) : WorkheadSound (entryLoaded s) := by
  unfold entryLoaded
  split
  · next hc =>
    obtain ⟨hs, hc⟩ := hc
    have hrest : s.queue.AtRest := by
      rcases hc with hp | ⟨-, hn⟩
      · exact hq.atRest_starved (.inl hs) hp
      · exact hq.atRest_of_noActive (Option.isNone_iff_eq_none.1 hn)
    have hparked : AllParked s := h.allParked_atRest (.inl hs) fun u => by
      rcases hc with hp | ⟨hp, -⟩ <;> simp [State.atWork, hp, NoneWorking.notInWork hrest.2]
    split
    · next hk => exact activateSlot_workhead hrest hs hparked hk
    · exact h
  · exact h

end Sys2Proof.Machine

namespace Sys2Proof.Machine

/-! ## The events of a unit, each as one change of the state (R122 to R132) -/

/-- A completion ends the order and gives the grant back (R122). -/
theorem endMotion_step (u : UnitId) (s : State) : endMotion u s = s.unitStep u (s.unit u).ended (s.arb.release (.unit u)) [] := by
  simp [endMotion, endUnitOrder, changeUnit_step, releaseGrant_step, TUnit.ended]

theorem startSqueeze_step {u : UnitId} {s : State} (h : (s.unit u).orderNo ≤ 255) : startSqueeze u s = s.unitStep u
    { (s.unit u).ordered (.squeeze (s.unit u).given.pressure) s.params.squeezeTime with state := .squeezing, tinesClosed := true } s.arb
    [.unit u (.squeeze (s.unit u).given.pressure) (numberAfter (s.unit u).orderNo)] := by
  rw [startSqueeze, changeUnit_step, orderUnit_step (by simpa using h)]
  simp [TUnit.ordered]

/-- The side-shift is reached with the work ordered: the unit asks for its lowering (R124). -/
theorem shiftDone_lowers {u : UnitId} {s : State} (hw : (s.unit u).workOrdered = true) : shiftDone u s =
    s.unitStep u ((s.unit u).ended.asks .lowering) ((s.arb.release (.unit u)).request (.unit u)) [] := by
  rw [shiftDone, if_pos hw]
  simp [setUnitState, endMotion_step, changeUnit_step, enterMotion_step, TUnit.asks]

/-- The side-shift is reached before the work is ordered: the unit is SET, and Job Control hears of it (R29, R124). -/
theorem shiftDone_sets {u : UnitId} {s : State} (hw : (s.unit u).workOrdered = false) : shiftDone u s =
    unitSet (s.unitStep u { (s.unit u).ended with state := .set } (s.arb.release (.unit u)) []) := by
  rw [shiftDone, if_neg (by simp [hw])]
  simp [setUnitState, endMotion_step, changeUnit_step]

/-- The depth is reached with the gate shut: the unit is INSERTED (R126). -/
theorem depthDone_waits {u : UnitId} {s : State} (hg : s.gateOpen = false) : depthDone u s =
    s.unitStep u { (s.unit u).ended with state := .inserted } (s.arb.release (.unit u)) [] := by
  have hstep : setUnitState u .inserted (endMotion u s) =
      s.unitStep u { (s.unit u).ended with state := .inserted } (s.arb.release (.unit u)) [] := by
    simp [setUnitState, endMotion_step, changeUnit_step]
  rw [depthDone, hstep]
  exact if_neg (Bool.eq_false_iff.1 hg)

/-- The depth is reached with the gate open: the unit squeezes (R126, R129). -/
theorem depthDone_squeezes {u : UnitId} {s : State} (hno : (s.unit u).orderNo ≤ 255) (hg : s.gateOpen = true) : depthDone u s =
    s.unitStep u
      { (s.unit u).ordered (.squeeze (s.unit u).given.pressure) s.params.squeezeTime with state := .squeezing, tinesClosed := true }
      (s.arb.release (.unit u)) [.unit u (.squeeze (s.unit u).given.pressure) (numberAfter (s.unit u).orderNo)] := by
  have hstep : setUnitState u .inserted (endMotion u s) =
      s.unitStep u { (s.unit u).ended with state := .inserted } (s.arb.release (.unit u)) [] := by
    simp [setUnitState, endMotion_step, changeUnit_step]
  have hgate : (s.unitStep u { (s.unit u).ended with state := .inserted } (s.arb.release (.unit u)) []).gateOpen = true := hg
  rw [depthDone, hstep]
  simp only [hgate, if_true]
  rw [startSqueeze_step (by simpa [TUnit.ended] using hno)]
  simp [TUnit.ended, TUnit.ordered, TUnit.given]

/-- The tines are open under a retreat: the unit goes up (R136). -/
theorem tinesDone_retreats {u : UnitId} {s : State} (hr : (s.unit u).retreat = true) : tinesDone u s =
    s.unitStep u { (s.unit u).ended.asks .retreating with tinesClosed := false } (s.arb.request (.unit u)) [] := by
  simp [tinesDone, hr, endUnitOrder, changeUnit_step, enterMotion_step, TUnit.asks, TUnit.ended]

/-- The tines are open and an insertion is left: the unit lifts to mid height for it (R131). -/
theorem tinesDone_next {u : UnitId} {s : State} (hr : (s.unit u).retreat = false)
    (hi : (s.unit u).insertion < (s.unit u).given.insertions) : tinesDone u s = s.unitStep u
      { ((s.unit u).ended.asks .liftingOut).noting (fun r => { r with completed := r.completed + 1 }) with
        tinesClosed := false, insertion := (s.unit u).insertion + 1, retries := 0 }
      (s.arb.request (.unit u)) [] := by
  rw [tinesDone, if_neg (by simp [hr]), insertionDone]
  simp only [endUnitOrder, changeUnit_step, enterMotion_step, TUnit.record_eq_noting, unitStep_reads, unitStep_unitStep, List.append_nil]
  exact if_pos hi

/-- The tines are open after the last insertion: the unit rises to park (R131). -/
theorem tinesDone_rises {u : UnitId} {s : State} (hr : (s.unit u).retreat = false)
    (hi : (s.unit u).given.insertions ≤ (s.unit u).insertion) : tinesDone u s = s.unitStep u
      { ((s.unit u).ended.asks .raising).noting (fun r => { r with completed := r.completed + 1 }) with tinesClosed := false }
      (s.arb.request (.unit u)) [] := by
  rw [tinesDone, if_neg (by simp [hr]), insertionDone]
  simp only [endUnitOrder, changeUnit_step, enterMotion_step, TUnit.record_eq_noting, unitStep_reads, unitStep_unitStep, List.append_nil]
  exact if_neg (Nat.not_lt.2 hi)

/-- Mid height is reached: the unit asks for its lowering (R127). -/
theorem midDone_step (u : UnitId) (s : State) : enterMotion u .lowering (endMotion u s) =
    s.unitStep u ((s.unit u).ended.asks .lowering) ((s.arb.release (.unit u)).request (.unit u)) [] := by
  simp [endMotion_step, enterMotion_step]

/-! ### A lowering out of its time (R126, R128) -/

/-- With a retry left the unit lifts to mid height. -/
theorem insertionExpired_retries {u : UnitId} {s : State} (hr : (s.unit u).retries < s.params.insertionRetries) :
    insertionExpired u s = s.unitStep u
      { ((s.unit u).ended.asks .liftingOut).noting (fun r => { r with retriesUsed := r.retriesUsed + 1 }) with
        retries := (s.unit u).retries + 1 }
      ((s.arb.release (.unit u)).request (.unit u)) ((s.unit u).cancels u) := by
  rw [insertionExpired, if_pos hr]
  simp only [retryInsertion, cancelUnit_step, releaseGrant_step, changeUnit_step, enterMotion_step, TUnit.record_eq_noting,
    unitStep_reads, unitStep_unitStep, List.append_nil]
  rfl

/-- With no retry left and the policy CONTINUE the unit rises to park. -/
theorem insertionExpired_rises {u : UnitId} {s : State} (hr : s.params.insertionRetries ≤ (s.unit u).retries)
    (hp : s.params.policy = .goOn) : insertionExpired u s = s.unitStep u
      (((s.unit u).ended.asks .raising).noting (fun r => { r with blocked := true }))
      ((s.arb.release (.unit u)).request (.unit u)) ((s.unit u).cancels u) := by
  rw [insertionExpired, if_neg (Nat.not_lt.2 hr)]
  simp only [blockInsertion, hp, cancelUnit_step, releaseGrant_step, changeUnit_step, enterMotion_step, TUnit.record_eq_noting,
    unitStep_reads, unitStep_unitStep, List.append_nil]
  rfl

/-- A blocked unit under the policy HALT: its result frozen, it goes up under a retreat (R128). -/
def TUnit.blockedOut (x : TUnit) : TUnit :=
  { (x.ended.asks .retreating).noting (fun r => { r with blocked := true }) with retreat := true, frozen := true }

/-- With no retry left and the policy HALT the unit retreats, and UNIT_BLOCKED goes to Job Control. -/
theorem insertionExpired_halts {u : UnitId} {s : State} (hr : s.params.insertionRetries ≤ (s.unit u).retries)
    (hp : s.params.policy = .halt) : insertionExpired u s = raiseFault .unitBlocked (.unit u)
      (s.unitStep u (s.unit u).blockedOut ((s.arb.release (.unit u)).request (.unit u)) ((s.unit u).cancels u)) := by
  rw [insertionExpired, if_neg (Nat.not_lt.2 hr)]
  simp only [blockInsertion, hp, cancelUnit_step, releaseGrant_step, changeUnit_step, enterMotion_step, TUnit.record_eq_noting,
    unitStep_reads, unitStep_unitStep, List.append_nil]
  rfl

theorem TUnit.Shaped.blockedOut {x : TUnit} (h : x.Shaped) (hst : x.state = .lowering) : x.blockedOut.Shaped :=
  h.asks (st := .retreating) rfl (h.tinesOpen (by simp [hst]))

end Sys2Proof.Machine

section
open Sys2Proof Sys2Proof.Machine

/-- Settles O51: the lowering given up is one change of the unit, and under HALT the fault then takes its way. -/
theorem insertionRetriesOrIsBlocked : Obligations.InsertionRetriesOrIsBlocked := by
  unfold Obligations.InsertionRetriesOrIsBlocked
  rintro u s o n x rfl hx hst ho
  obtain ⟨-, htimer⟩ := hx.ordered ho
  have hcancels : (s.unit u).cancels u = [.unitCancel u n] := by rw [TUnit.cancels, ho]
  have hexec : exec (.insertionTimerExpiry u) s = .next (unitEvent (insertionExpired u s)) :=
    congrArg Host.Outcome.next (if_pos (by simp [TUnit.timed, hst, htimer]))
  have asked {y : TUnit} {orders : List FieldOrder} (hnr : NoRetreat s) :
      NoRetreat (s.unitStep u y ((s.arb.release (.unit u)).request (.unit u)) orders) := by
    refine ⟨?_, hnr.2⟩
    rw [(unitStep_reads ..).2.1, (Arbiter.request_keeps _ _).1, (Arbiter.release_keeps _ _).1, hnr.1]
  refine ⟨fun hr hnr => ?_, fun hr hp hnr => ?_, fun hr hp hw => ?_⟩
  · rw [insertionExpired_retries hr, hcancels] at hexec
    exact ⟨_, hexec, unitEvent_unitMoved (asked hnr)⟩
  · rw [insertionExpired_rises hr hp, hcancels] at hexec
    exact ⟨_, hexec, unitEvent_unitMoved (asked hnr)⟩
  · rw [insertionExpired_halts hr hp, hcancels] at hexec
    have hsound := hw.unitStep (u := u) (a := (s.arb.release (.unit u)).request (.unit u)) (orders := [.unitCancel u n])
      (hx.blockedOut hst) (by simp [hst]) (fun h => by cases h)
    exact ⟨_, hexec, unitEvent_faulted hsound.1 hsound.2.1⟩

end

namespace Sys2Proof.Machine

/-! ## Every event of a unit keeps the workhead sound -/

/-! ### The grant (R122) -/

/-- The order of a motion state is one that the state waits for. -/
theorem TUnit.motionOrder_fits {x : TUnit} {p : Params} {o : UnitOrder} {ms : Nat} (h : x.motionOrder p = some (o, ms)) :
    o.fits x.state = true ∧ x.state.motion = true := by
  unfold TUnit.motionOrder at h
  split at h <;> cases h <;> rename_i hst <;> rw [hst] <;> exact ⟨rfl, rfl⟩

theorem UnitState.motion_open {st : UnitState} (h : st.motion = true) :
    st ≠ .squeezing ∧ st ≠ .opening ∧ st ≠ .held ∧ st ≠ .stuck ∧ st ≠ .parked := by
  cases st <;> simp_all [UnitState.motion]

/-- A waiting unit that holds the grant issues its state's order (R122). -/
theorem TUnit.Shaped.granted {x : TUnit} (h : x.Shaped) {p : Params} {o : UnitOrder} {ms : Nat} (ho : x.motionOrder p = some (o, ms)) :
    TUnit.Shaped { x.ordered o ms with waiting := false } := by
  obtain ⟨hf, hm⟩ := TUnit.motionOrder_fits ho
  obtain ⟨hsq, hop, hhe, hstk, -⟩ := UnitState.motion_open hm
  refine TUnit.shaped_ordered (numberAfter_le h.number_le) rfl rfl rfl hf ?_
  simp [TUnit.ordered, hsq, hop, h.tinesOpen ⟨hsq, hop, hhe, hstk⟩]

theorem takeUnitGrant_orders {u : UnitId} {s : State} {o : UnitOrder} {ms : Nat} (hno : (s.unit u).orderNo ≤ 255) :
    orderUnit u o ms (changeUnit u (fun y => { y with waiting := false }) s) = s.unitStep u
      { (s.unit u).ordered o ms with waiting := false } s.arb [.unit u o (numberAfter (s.unit u).orderNo)] := by
  rw [changeUnit_step, orderUnit_step (by simpa using hno)]
  simp [TUnit.ordered]

theorem releaseGrant_workhead {u : UnitId} {s : State} (h : WorkheadSound s) : WorkheadSound (releaseGrant u s) :=
  h.congr (by simp) (by simp) (.of_blocks (by simp) (by simp) (by simp) (by simp))

theorem takeUnitGrant_workhead {u : UnitId} {s : State} (h : WorkheadSound s) : WorkheadSound (takeUnitGrant u s) := by
  obtain ⟨hunits, -⟩ := id h
  unfold takeUnitGrant
  dsimp only
  split
  · split
    · next o ms _ ho =>
      obtain ⟨hsq, -, -, -, hpk⟩ := UnitState.motion_open (TUnit.motionOrder_fits ho).2
      rw [takeUnitGrant_orders (hunits u).number_le]
      exact h.unitStep ((hunits u).granted ho) (fun hp => absurd hp hpk) (fun hst => absurd hst hsq)
    · exact h
  · split
    · exact h
    · exact releaseGrant_workhead h

/-! ### The work order and the whole continuation (R29, R125) -/

theorem TUnit.toldToWork_state (x : TUnit) :
    (x.toldToWork.state = x.state ∨ x.toldToWork.state = .lowering ∧ x.state = .set) := by
  unfold TUnit.toldToWork
  split
  · next h => exact .inr ⟨rfl, h.2.2⟩
  · split <;> exact .inl rfl

theorem workUnits_workhead {s : State} (h : WorkheadSound s) : WorkheadSound (workUnits s) := by
  obtain ⟨hunits, hllu, -, -, -, hgate⟩ := id h
  have hunit (u : UnitId) : (workUnits s).unit u = (s.unit u).toldToWork := by rw [workUnits_eq]; exact Quad.get_map ..
  have hl : (workUnits s).llu = s.llu := by simp
  refine h.kept (.of_blocks (by simp) (by simp) (by simp) (by simp)) (fun u => ?_) (by rwa [hl]) (fun u hp => ?_) (by rw [hl]; exact id)
    fun u hsq => ?_
  · rw [hunit]
    exact (hunits u).toldToWork
  · rw [hunit]
    rcases (s.unit u).toldToWork_state with hst | ⟨-, hst⟩
    · rw [hst, hp]
    · rw [hp] at hst
      cases hst
  · rw [hunit] at hsq
    rw [hl]
    rcases (s.unit u).toldToWork_state with hst | ⟨hst, -⟩
    · exact hgate u (hst ▸ hsq)
    · rw [hst] at hsq
      cases hsq

/-- The phase becomes WORKING where the same units are at work already. -/
theorem WorkheadSound.toWorking {s t : State} (h : WorkheadSound s) (hs : s.job.state = .running)
    (hp : s.job.phase = some .positioning ∨ (s.job.phase = some .holding ∧ s.entryInWork = true)) (hu : t.units = s.units)
    (hl : t.llu = s.llu) (hph : t.job.phase = some .working) (hd : t.job.done = s.job.done) (hi : IdleHeld t) : WorkheadSound t := by
  obtain ⟨hunits, hllu, hrest, -, hjoin, hgate⟩ := h
  have hunit : ∀ u, t.unit u = s.unit u := fun u => by rw [State.unit, hu]; rfl
  have hwork : ∀ u, t.atWork u = s.atWork u := fun u => by
    rcases hp with hp | ⟨hp, hin⟩
    · simp [State.atWork, hph, hp, hd]
    · simp [State.atWork, hph, hp, hd, hin]
  refine ⟨fun u => hunit u ▸ hunits u, hl ▸ hllu, fun _ u hw => hunit u ▸ hrest (.inl hs) u (hwork u ▸ hw), hi, fun hrun => ?_,
    fun u hsq => hl ▸ hgate u (hunit u ▸ hsq)⟩
  obtain ⟨-, hph, hnone⟩ := hjoin (hl ▸ hrun)
  rcases hp with hp | ⟨-, hin⟩
  · simp [hp] at hph
  · simp [hnone] at hin

theorem unitSet_workhead {s : State} (h : WorkheadSound s) : WorkheadSound (unitSet s) := by
  unfold unitSet
  split
  · next hc =>
    obtain ⟨hs, hp, hact, -⟩ := hc
    obtain ⟨-, -, -, hi, -⟩ := id h
    have hin : s.entryInWork = true := by
      obtain ⟨x, hx, hst⟩ := List.any_eq_true.1 hact
      exact (entryInWork_iff s).2 ⟨x, hx, by rw [eq_of_beq hst]; rfl⟩
    exact workUnits_workhead (h.toWorking hs (.inr ⟨hp, hin⟩) (by simp) (by simp) rfl rfl
      (hi.moved (by simp [hs]) (by simp) (by simp)))
  · exact h

/-! ### Completions and expiries -/

section
variable {u : UnitId} {s : State}

theorem shiftDone_workhead (h : WorkheadSound s) (hst : (s.unit u).state = .shifting) (ho : (s.unit u).waiting = false) :
    WorkheadSound (shiftDone u s) := by
  obtain ⟨hunits, -⟩ := id h
  have hc := (hunits u).tinesOpen (by simp [hst])
  cases hw : (s.unit u).workOrdered
  · rw [shiftDone_sets hw]
    exact unitSet_workhead (h.unitStep (TUnit.shaped_resting (hunits u).number_le ho rfl rfl rfl hc) (by simp [hst]) (by simp))
  · rw [shiftDone_lowers hw]
    exact h.unitStep ((hunits u).asks rfl hc) (by simp [hst]) (by simp [TUnit.asks])

theorem depthDone_workhead (h : WorkheadSound s) (hst : (s.unit u).state = .lowering) (ho : (s.unit u).waiting = false) :
    WorkheadSound (depthDone u s) := by
  obtain ⟨hunits, -⟩ := id h
  cases hg : s.gateOpen
  · rw [depthDone_waits hg]
    exact h.unitStep (TUnit.shaped_resting (hunits u).number_le ho rfl rfl rfl ((hunits u).tinesOpen (by simp [hst])))
      (by simp [hst]) (by simp)
  · rw [depthDone_squeezes (hunits u).number_le hg]
    refine h.unitStep ((hunits u).squeezes ho _ _) (by simp [hst]) fun _ => ?_
    simpa [State.gateOpen, Llu.atDemandOrHolding] using hg

theorem tinesDone_workhead (h : WorkheadSound s) (hst : (s.unit u).state = .opening) : WorkheadSound (tinesDone u s) := by
  obtain ⟨hunits, -⟩ := id h
  have hno := (hunits u).number_le
  cases hr : (s.unit u).retreat
  · by_cases hi : (s.unit u).insertion < (s.unit u).given.insertions
    · rw [tinesDone_next hr hi]
      exact h.unitStep (TUnit.shaped_waiting hno rfl rfl rfl rfl rfl) (by simp [hst]) (by simp [TUnit.asks, TUnit.noting])
    · rw [tinesDone_rises hr (Nat.not_lt.1 hi)]
      exact h.unitStep (TUnit.shaped_waiting hno rfl rfl rfl rfl rfl) (by simp [hst]) (by simp [TUnit.asks, TUnit.noting])
  · rw [tinesDone_retreats hr]
    exact h.unitStep (TUnit.shaped_waiting hno rfl rfl rfl rfl rfl) (by simp [hst]) (by simp [TUnit.asks])

theorem midDone_workhead (h : WorkheadSound s) (hst : (s.unit u).state = .liftingOut) :
    WorkheadSound (enterMotion u .lowering (endMotion u s)) := by
  obtain ⟨hunits, -⟩ := id h
  rw [midDone_step]
  exact h.unitStep ((hunits u).asks rfl ((hunits u).tinesOpen (by simp [hst]))) (by simp [hst]) (by simp [TUnit.asks])

/-- A PARKED unit counts as done for the active entry (R31). -/
theorem markDone_workhead (h : WorkheadSound s) (hp : (s.unit u).state = .parked) :
    WorkheadSound (s.setJob { s.job with done := s.job.done.set u true }) := by
  obtain ⟨hunits, hllu, hrest, hi, hjoin, hgate⟩ := h
  refine ⟨hunits, hllu, fun hr v hw => ?_, hi, hjoin, hgate⟩
  by_cases hv : v = u
  · rw [hv]
    exact hp
  · refine hrest hr v ?_
    simpa [State.atWork, State.entryInWork, State.setJob, Quad.get_set_of_ne _ _ hv] using hw

theorem unitDone_workhead (hq : QueueSound s) (h : WorkheadSound s) (hp : (s.unit u).state = .parked) :
    WorkheadSound (unitDone u s) := by
  have hdone : WorkheadSound (testEndOfWork (s.setJob { s.job with done := s.job.done.set u true })) :=
    testEndOfWork_workhead (hq.congr rfl rfl rfl) (markDone_workhead h hp)
  unfold unitDone
  split
  · exact hdone
  · exact hdone
  · exact h
  · exact h

theorem parkDone_workhead (hq : QueueSound s) (h : WorkheadSound s) (hst : (s.unit u).state.goingToPark = true)
    (ho : (s.unit u).waiting = false) : WorkheadSound (parkDone u s) := by
  obtain ⟨hunits, -⟩ := id h
  have hopen : (s.unit u).tinesClosed = false := (hunits u).tinesOpen (by revert hst; cases (s.unit u).state <;> simp [UnitState.goingToPark])
  have hparked : WorkheadSound (parkUnit u (endMotion u s)) := by
    rw [parkUnit_step]
    exact h.unitStep (TUnit.shaped_resting (hunits u).number_le ho rfl rfl rfl hopen) (fun _ => rfl) (by simp)
  unfold parkDone
  dsimp only
  split
  · exact unitDone_workhead (hq.congr (by simp) (by simp) (by simp)) hparked (by rw [parkUnit_step, (unitStep_reads ..).1])
  · exact hparked

/-- A motion out of its time makes its unit STUCK; a unit with an order outstanding is not at park (R134). -/
theorem unitStuck_workhead (h : WorkheadSound s) (ht : (s.unit u).timer.isSome = true) : WorkheadSound (unitStuck u s) := by
  obtain ⟨hunits, -⟩ := id h
  have hw : (s.unit u).waiting = false := Bool.eq_false_iff.2 fun hw => by simp [((hunits u).waits hw).2] at ht
  have hp : (s.unit u).state ≠ .parked := fun hp => by simp [((hunits u).rests (by rw [hp]; rfl)).2.2] at ht
  have hstuck : WorkheadSound (stickUnit u s) := by
    have hstep : WorkheadSound (s.unitStep u (s.unit u).timedOut (s.arb.release (.unit u)) ((s.unit u).cancels u)) :=
      h.unitStep ((hunits u).timedOut hw) (fun hpk => absurd hpk hp) (fun hst => by cases hst)
    rw [stickUnit_eq]
    exact hstep.congr rfl rfl (.of_blocks rfl rfl rfl rfl)
  exact unitEvent_workhead (raiseFault_workhead hstuck)

theorem insertionExpired_workhead (h : WorkheadSound s) (hst : (s.unit u).state = .lowering) : WorkheadSound (insertionExpired u s) := by
  obtain ⟨hunits, -⟩ := id h
  have hc := (hunits u).tinesOpen (by simp [hst])
  by_cases hr : (s.unit u).retries < s.params.insertionRetries
  · rw [insertionExpired_retries hr]
    exact h.unitStep ((hunits u).asks (st := .liftingOut) rfl hc) (by simp [hst]) (by simp [TUnit.asks, TUnit.noting])
  · have hr := Nat.not_lt.1 hr
    cases hp : s.params.policy
    · rw [insertionExpired_halts hr hp]
      exact raiseFault_workhead (h.unitStep ((hunits u).blockedOut hst) (by simp [hst]) (fun hsq => by cases hsq))
    · rw [insertionExpired_rises hr hp]
      exact h.unitStep (((hunits u).asks rfl hc).noting _) (by simp [hst]) (by simp [TUnit.asks, TUnit.noting])

theorem squeezeExpired_workhead (h : WorkheadSound s) (hst : (s.unit u).state = .squeezing) : WorkheadSound (squeezeExpired u s) := by
  obtain ⟨hunits, -⟩ := id h
  obtain ⟨hw, hc⟩ := (hunits u).tinesBusy (.inl hst)
  rw [squeezeExpired, changeUnit_step, TUnit.record_eq_noting, startOpening_step (by simpa using ((hunits u).noting _).number_le),
    unitStep_unitStep, (unitStep_reads ..).1]
  exact h.unitStep (((hunits u).noting _).sentOpening hw hc) (by simp [hst]) (by simp [TUnit.sentOpening])

end

/-- A unit with the order a completion names is not waiting. -/
theorem TUnit.Shaped.awaited {x : TUnit} (h : x.Shaped) {p : UnitOrder → Bool} {n : Nat} (ha : x.awaits p n = true) :
    x.waiting = false := by
  cases ho : x.order with
  | none => simp [TUnit.awaits, ho] at ha
  | some o => exact (h.ordered (o := o.1) (n := o.2) ho).1

end Sys2Proof.Machine

namespace Sys2Proof.Machine

/-! ## Every event of the LLU keeps the workhead sound -/

theorem nextNumber_le (n : Nat) : nextNumber n ≤ 255 := by
  unfold nextNumber
  omega

/-- Only CLAMPING and RELEASING wait for a grant (R143). -/
theorem Llu.Shaped.notWaiting {x : Llu} (h : x.Shaped) (hst : x.state ≠ .clamping ∧ x.state ≠ .releasing) : x.waiting = false := by
  obtain ⟨-, -, hmatch, -⟩ := h
  refine Bool.eq_false_iff.2 fun hw => ?_
  rw [hw] at hmatch
  cases ho : x.order <;> rw [ho] at hmatch
  · rcases hmatch with h | h
    · exact hst.1 h
    · exact hst.2 h
  · exact hmatch

/-- An LLU whose completion is named has its order outstanding. -/
theorem Llu.Shaped.awaited {x : Llu} (h : x.Shaped) {p : LluOrder → Bool} {n : Nat} (ha : x.awaits p n = true) :
    x.waiting = false ∧ x.order.isSome = true := by
  cases ho : x.order with
  | none => simp [Llu.awaits, ho] at ha
  | some o => exact ⟨(h.ordered (o := o.1) (n := o.2) ho).1, rfl⟩

/-- An LLU that moves waits for nothing, and has its order (R143). -/
theorem Llu.Shaped.timed {x : Llu} (h : x.Shaped) (ht : x.timer.isSome = true) : x.waiting = false ∧ x.order.isSome = true := by
  obtain ⟨htimer, -⟩ := id h
  exact ⟨Bool.eq_false_iff.2 fun hw => by simp [(h.waits hw).2] at ht, htimer ▸ ht⟩

section
variable {s : State}

/-! ### The grant (R146, R155) -/

theorem startClamp_workhead (h : WorkheadSound s) (hst : s.llu.state = .clamping) (hw : s.llu.waiting = true) :
    WorkheadSound (startClamp s) := by
  obtain ⟨-, hl, -⟩ := id h
  have hj := hl.noJoinHold (by simp [hst])
  have hshape : (startClamp s).llu.Shaped := by
    refine Llu.shaped_ordered (o := .clamp (s.llu.demanded.hook.map (·.2))) (nextNumber_le _) rfl rfl rfl ?_ (.inl ?_) hj
      (hl.noSettle (by simp [hst]))
    · rw [show (startClamp s).llu.state = s.llu.state from rfl, hst]
      rfl
    · exact hl.noRetreat (by simp [hst]) (.inl hw)
  exact h.lluChanged_offDemand (by simp) (.of_blocks (by simp) (by simp) (by simp) (by simp)) hshape id (by simp [hst])

theorem startUnclamp_workhead (h : WorkheadSound s) (hst : s.llu.state = .releasing) : WorkheadSound (startUnclamp s) := by
  obtain ⟨-, hl, -⟩ := id h
  have hst' : (startUnclamp s).llu.state = .releasing := hst
  have hshape : (startUnclamp s).llu.Shaped := by
    refine Llu.shaped_ordered (o := .unclamp) (nextNumber_le _) rfl rfl rfl ?_ (.inr hst') (hl.noJoinHold (by simp [hst]))
      (hl.noSettle (by simp [hst]))
    rw [hst']
    rfl
  exact h.lluChanged_offDemand (by simp) (.of_blocks (by simp) (by simp) (by simp) (by simp)) hshape id (by simp [hst])

theorem releaseLluGrant_workhead (h : WorkheadSound s) : WorkheadSound (releaseLluGrant s) :=
  h.congr (by simp) (by simp) (.of_blocks (by simp) (by simp) (by simp) (by simp))

theorem takeLluGrant_workhead (h : WorkheadSound s) : WorkheadSound (takeLluGrant s) := by
  unfold takeLluGrant
  split
  · next hw =>
    split
    · split
      · next hst => exact startClamp_workhead h hst hw
      · next hst => exact startUnclamp_workhead h hst
      all_goals exact h
    · exact h
  · split
    · exact h
    · exact releaseLluGrant_workhead h

/-! ### The squeeze gate (R129, R152) -/

theorem gateOpensFor_workhead {u : UnitId} (h : WorkheadSound s) (hg : s.llu.state = .atDemand ∨ s.llu.state = .holding) :
    WorkheadSound (gateOpensFor u s) := by
  obtain ⟨hunits, -⟩ := id h
  unfold gateOpensFor
  split
  · next hst =>
    obtain ⟨hw, -⟩ := (hunits u).rests (by rw [hst]; rfl)
    rw [startSqueeze_step (hunits u).number_le]
    exact h.unitStep ((hunits u).squeezes hw _ _) (by simp [hst]) fun _ => hg
  · exact h

theorem openGate_workhead (h : WorkheadSound s) (hg : s.llu.state = .atDemand ∨ s.llu.state = .holding) : WorkheadSound (openGate s) := by
  have hlo := gateOpensFor_workhead (u := .lo) h hg
  have hli := gateOpensFor_workhead (u := .li) hlo (by simpa using hg)
  have hri := gateOpensFor_workhead (u := .ri) hli (by simpa using hg)
  exact gateOpensFor_workhead hri (by simpa using hg)

/-- The lifting ends: the LLU is AT_DEMAND with nothing outstanding, and the gate opens (R149). -/
theorem reachDemand_workhead (h : WorkheadSound s) (hst : s.llu.state = .lifting) : WorkheadSound (reachDemand s) := by
  obtain ⟨-, hl, -⟩ := id h
  have hj := hl.noJoinHold (by simp [hst])
  have hs := hl.noSettle (by simp [hst])
  refine openGate_workhead (h.lluChanged_offDemand (by simp) (.of_blocks (by simp) (by simp) (by simp) (by simp)) ?_ ?_ (by simp [hst]))
    (.inl rfl)
  · exact Llu.shaped_quiet hl.number_le (hl.notWaiting (by simp [hst])) rfl rfl (by simp) (by simp)
      (by simp [endLluOrder, hj]) (by simp [endLluOrder, hs])
  · simp [endLluOrder]

/-- The mark a lifting ends with is not part of the table. -/
theorem liftEnded_workhead {f : Llu → Llu} (hq : QueueSound s) (h : WorkheadSound (changeLlu f s)) (hst : (f s.llu).state = .lifting) :
    WorkheadSound (testEndOfWork (reachDemand (changeLlu f s))) :=
  testEndOfWork_workhead (reachDemand_queueSound (hq.congr rfl rfl rfl)) (reachDemand_workhead h hst)

/-! ### Clamping and unclamping (R146, R147, R155, R159) -/

theorem startLift_workhead (h : WorkheadSound s) (hst : s.llu.state = .clamping) (hw : s.llu.waiting = false)
    (hr : s.llu.retreat = false) : WorkheadSound (startLift s) := by
  obtain ⟨-, hl, -⟩ := id h
  have hshape : (startLift s).llu.Shaped :=
    Llu.shaped_ordered (nextNumber_le _) hw rfl rfl rfl (.inl hr) (hl.noJoinHold (by simp [hst])) (hl.noSettle (by simp [hst]))
  exact h.lluChanged_offDemand (by simp) (.of_blocks (by simp) (by simp) (by simp) (by simp)) hshape id (by simp [hst])

theorem clampDone_workhead (h : WorkheadSound s) (hst : s.llu.state = .clamping) (hw : s.llu.waiting = false)
    (ho : s.llu.order.isSome = true) : WorkheadSound (clampDone s) := by
  obtain ⟨-, hl, -⟩ := id h
  have hshape : (endLluOrder s).llu.Shaped :=
    Llu.shaped_quiet hl.number_le hw rfl rfl (by simp [endLluOrder, hst]) (by simp [endLluOrder, hst])
      (by simp [endLluOrder, hl.noJoinHold (show s.llu.state ≠ .holding by simp [hst])])
      (by simp [endLluOrder, hl.noSettle (show s.llu.state ≠ .settling by simp [hst])])
  have hended : WorkheadSound (endLluOrder s) :=
    h.lluChanged_offDemand (by simp) (.of_blocks (by simp) (by simp) (by simp) (by simp)) hshape id (by simp [hst])
  unfold clampDone
  dsimp only
  split
  · exact raiseFault_workhead (releaseLluGrant_workhead hended)
  · exact startLift_workhead hended hst hw (hl.noRetreat (by simp [hst]) (.inr ho))

theorem unclampDone_workhead (h : WorkheadSound s) (hst : s.llu.state = .releasing) (hw : s.llu.waiting = false) :
    WorkheadSound (unclampDone s) := by
  obtain ⟨-, hl, -⟩ := id h
  have hj := hl.noJoinHold (by simp [hst])
  have hs := hl.noSettle (by simp [hst])
  have hshape : (unclampDone s).llu.Shaped := by
    cases hr : s.llu.retreat
    · simp only [unclampDone, hr]
      exact Llu.shaped_quiet hl.number_le hw rfl rfl (by simp) (fun _ => hr) (by simp [endLluOrder, hj]) (by simp)
    · simp only [unclampDone, hr]
      exact Llu.shaped_quiet hl.number_le hw rfl rfl (by simp [openUnderRetreat]) (fun _ => rfl) (by simp [openUnderRetreat, endLluOrder, hj])
        (by simp [openUnderRetreat, endLluOrder, hs])
  have hjoin : (unclampDone s).llu.joinHold = s.llu.joinHold := by
    unfold unclampDone
    dsimp only
    split <;> rfl
  exact h.lluChanged_offDemand (by simp) (.of_blocks (by simp) (by simp) (by simp) (by simp)) hshape (by rw [hjoin]; exact id)
    (by simp [hst])

theorem clampFailed_workhead (h : WorkheadSound s) (hst : s.llu.state = .clamping ∨ s.llu.state = .releasing)
    (hw : s.llu.waiting = false) : WorkheadSound (clampFailed s) := by
  obtain ⟨-, hl, -⟩ := id h
  rw [clampFailed_eq]
  refine raiseFault_workhead (h.lluChanged_offDemand rfl (.of_blocks rfl rfl rfl rfl) (hl.timedOut hw hst) id ?_)
  rcases hst with hst | hst <;> simp [hst]

theorem lluSettled_workhead (h : WorkheadSound s) (hst : s.llu.state = .settling) :
    WorkheadSound (changeLlu (fun x => { x with settle := none, count := 0 }) s) := by
  obtain ⟨-, hl, -⟩ := id h
  obtain ⟨hw, ho, ht⟩ := hl.rests (by simp [hst])
  refine h.lluChanged_offDemand rfl (.of_blocks rfl rfl rfl rfl) ?_ id (by simp [hst])
  exact Llu.shaped_quiet hl.number_le hw ho ht (by simp [hst]) (fun _ => hl.openNoRetreat (.inr hst))
    (by simp [hl.noJoinHold (show s.llu.state ≠ .holding by simp [hst])]) (by simp)

/-! ### Samples (R88, R147, R151, R157) -/

theorem formAchieved_workhead (h : WorkheadSound s) : WorkheadSound (formAchieved s) := by
  obtain ⟨-, hl, -, -, -, hgate⟩ := id h
  have hlf := formAchieved_llu s
  refine h.lluChanged (by simp) (.of_blocks (by simp) (by simp) (by simp) (by simp)) ?_ ?_ ?_ <;> rw [hlf]
  · exact hl
  · exact id
  · exact hgate

/-- The LLU gives its motion up in its state, and no fault finds it waiting (R151). -/
theorem lluSensorLost_workhead (h : WorkheadSound s) (hst : s.llu.state = .clamping ∨ s.llu.state = .lifting) :
    WorkheadSound (lluSensorLost s) := by
  obtain ⟨-, hl, -⟩ := id h
  have hj := hl.noJoinHold (by rcases hst with hst | hst <;> simp [hst])
  have hs := hl.noSettle (by rcases hst with hst | hst <;> simp [hst])
  rw [lluSensorLost, leaveLluMotion_step hl.waits]
  refine raiseFault_workhead (h.lluChanged_offDemand rfl (.of_blocks rfl rfl rfl rfl) ?_ id (by rcases hst with hst | hst <;> simp [hst]))
  exact Llu.shaped_quiet hl.number_le rfl rfl rfl (by rcases hst with hst | hst <;> simp [State.lluStep, Llu.ended, hst])
    (by rcases hst with hst | hst <;> simp [State.lluStep, Llu.ended, hst]) (by simp [State.lluStep, Llu.ended, hj])
    (by simp [State.lluStep, Llu.ended, hs])

theorem endMeasurement_workhead {r : Correction} {residual : Option (Int × Int)} (hq : QueueSound s) (h : WorkheadSound s)
    (hst : s.llu.state = .settling) (hset : s.llu.settle = none) : WorkheadSound (endMeasurement r residual s) := by
  obtain ⟨-, hl, -⟩ := id h
  obtain ⟨hw, ho, ht⟩ := hl.rests (by simp [hst])
  have hj : s.llu.joinHold = none := hl.noJoinHold (by simp [hst])
  refine lluReportsOpen_workhead (hq.congr rfl rfl rfl) (h.lluChanged_offDemand rfl (.of_blocks rfl rfl rfl rfl) ?_ id (by simp [hst])) hj
  exact Llu.shaped_quiet hl.number_le hw ho ht (by simp) (fun _ => hl.openNoRetreat (.inr hst)) (by simp [hj]) (by simp [hset])

theorem settleSample_workhead (hq : QueueSound s) (h : WorkheadSound s) (hst : s.llu.state = .settling) (hset : s.llu.settle = none) :
    WorkheadSound (settleSample s) := by
  obtain ⟨-, hl, -⟩ := id h
  have hcounted : WorkheadSound (changeLlu (fun x => { x with count := x.count + 1 }) s) :=
    h.lluChanged_offDemand rfl (.of_blocks rfl rfl rfl rfl) hl id (by simp [hst])
  unfold settleSample
  split
  · split
    · exact endMeasurement_workhead hq h hst hset
    · dsimp only
      split
      · exact hcounted
      · exact endMeasurement_workhead (hq.congr rfl rfl rfl) hcounted hst hset
  all_goals exact h

theorem lluSample_workhead {before : Channels ChannelRec} (hq : QueueSound s) (h : WorkheadSound s) :
    WorkheadSound (lluSample before s) := by
  have hformed := formAchieved_workhead h
  unfold lluSample
  split
  · next hst =>
    split
    · exact h
    · split
      · exact lluSensorLost_workhead h (.inl hst)
      · exact h
  · next hst =>
    split
    · exact hformed
    · split
      · exact lluSensorLost_workhead h (.inr hst)
      · unfold liftSample
        split
        · have hst' : (formAchieved s).llu.state = .lifting := by rw [formAchieved_llu]; exact hst
          exact testEndOfWork_workhead (reachDemand_queueSound (hq.congr (by simp) (by simp) (by simp)))
            (reachDemand_workhead hformed hst')
        · exact hformed
  · next hst =>
    split
    · exact h
    · next hset => exact settleSample_workhead hq h hst (Option.not_isSome_iff_eq_none.1 hset)
  all_goals exact h

theorem takeSampleStep_workhead {x : Channels Reading} (hq : QueueSound s) (h : WorkheadSound s) : WorkheadSound (takeSampleStep x s) := by
  have hupdated : WorkheadSound (updateChannels x s) := h.congr (by simp) (by simp) (.of_blocks (by simp) (by simp) (by simp) (by simp))
  have hl := lluSample_workhead (before := s.meas.channels) (hq.congr (by simp) (by simp) (by simp)) hupdated
  exact unitEvent_workhead (hl.congr (by simp) (by simp) ⟨by simp, by simp, by simp, by simp [State.entryInWork], by simp, by simp⟩)

/-! ### Travel (R30, R101, R112, R116) -/

theorem travelFault_workhead {code : FaultCode} (h : WorkheadSound s) : WorkheadSound (travelFault code s) :=
  raiseFault_workhead (h.congr (by simp) (by simp) (.of_blocks (by simp) (by simp) (by simp) (by simp)))

theorem lluWork_workhead {d : Demands} (h : WorkheadSound s) : WorkheadSound (lluWork d s) := by
  by_cases hst : s.llu.state = .isOpen
  · obtain ⟨-, hl, -⟩ := id h
    obtain ⟨-, ho, ht⟩ := hl.rests (by simp [hst])
    rw [lluWork_eq hst]
    refine h.lluChanged_offDemand rfl (.of_blocks rfl rfl rfl rfl) ?_ id (by simp [hst])
    exact Llu.shaped_waiting hl.number_le rfl ho ht (.inl ⟨rfl, hl.openNoRetreat (.inl hst)⟩) (hl.noJoinHold (by simp [hst]))
      (hl.noSettle (by simp [hst]))
  · rw [lluWork, if_pos hst]
    exact h

/-- A change of slots in place leaves an entry at work when it keeps their states. -/
theorem entryInWork_modify {k : Nat} {f : Slot → Slot} (hf : ∀ x, (f x).state = x.state) :
    (s.setQueue (s.queue.modify k f)).entryInWork = s.entryInWork := by
  have hmap : (s.queue.slots.modify k f).map (·.state) = s.queue.slots.map (·.state) := by
    refine List.ext_getElem? fun i => ?_
    rw [List.getElem?_map, List.getElem?_map, List.getElem?_modify]
    cases s.queue.slots[i]? with
    | none => rfl
    | some x =>
      simp only [Option.map_eq_map, Option.map_some]
      split <;> simp [hf]
  have hany (l : List Slot) : l.any (·.state.working) = (l.map (·.state)).any SlotState.working := by simp [List.any_map, Function.comp_def]
  simp only [State.entryInWork, WorkQueue.activePos, State.setQueue_reads, WorkQueue.modify, List.findIdx?_isSome, hany, hmap]

theorem inPosition_workhead (h : WorkheadSound s) : WorkheadSound (inPosition s) := by
  unfold inPosition
  split
  · exact h
  · next hc =>
    simp only [not_or, not_not] at hc
    obtain ⟨hs, hp⟩ := hc
    obtain ⟨-, -, -, hi, -⟩ := id h
    split
    · split
      · refine raiseFault_workhead (h.congr rfl rfl ⟨rfl, rfl, rfl, entryInWork_modify fun _ => rfl, id, id⟩)
      · exact workUnits_workhead (lluWork_workhead (h.toWorking hs (.inl hp) rfl rfl rfl rfl (hi.moved (by simp [hs]) rfl rfl)))
    · exact h

theorem afterStep_workhead {saturated : Bool} (h : WorkheadSound s) : WorkheadSound (afterStep saturated s) := by
  unfold afterStep
  split
  · split
    · exact travelFault_workhead h
    · exact h
  · split
    · split
      · exact travelFault_workhead h
      · exact h
    · exact h.congr rfl rfl (.of_blocks rfl rfl rfl rfl)

theorem judgeRest_workhead (h : WorkheadSound s) : WorkheadSound (judgeRest s) := by
  have htravel (v : Travel) : WorkheadSound (s.setTravel v) := h.congr rfl rfl (.of_blocks rfl rfl rfl rfl)
  unfold judgeRest
  dsimp only
  split
  · exact inPosition_workhead (htravel _)
  · split
    · split
      · exact travelFault_workhead h
      · exact htravel _
    · exact htravel _

end

end Sys2Proof.Machine

namespace Sys2Proof.Machine

/-! ## Every request keeps the workhead sound -/

/-- A take that acts is the answer of a refusal, or of the owner with nothing against it: no RESTART waits, and a self-test does not
run beside a request that is no reading one (R179, R180). -/
theorem takeRequest_acts {P : State → Prop} {f : Frame} {fits reading : Bool} {owner : State → State × Answer} {s : State} (h : P s)
    (hrefused : ∀ a, P (answer f a (s.setLink s.link.taken)))
    (howner : (s.test.running = true → reading = true) → s.link.restartPending = false →
      P (answer f (owner (s.setLink s.link.taken)).2 (owner (s.setLink s.link.taken)).1)) :
    P (takeRequest f fits reading owner s) := by
  by_cases hm : s.link.mayTake f = true
  · obtain ⟨-, hpending, -⟩ := mayTake_iff.1 hm
    rw [takeRequest, if_pos hm]
    dsimp only
    split
    · exact hrefused _
    · next hg =>
      refine howner (fun hr => ?_) hpending
      cases reading
      · simp only [generalRefusal] at hg
        split at hg
        · cases hg
        · simp [hr] at hg
      · rfl
  · rw [takeRequest, if_neg hm]
    exact h

section
variable {s : State}

theorem reportJob_workhead (h : WorkheadSound s) : WorkheadSound (reportJob s) :=
  h.congr (by simp) (by simp) (.of_blocks (by simp) (by simp) (by simp) (by simp))

theorem issueDrive_workhead (h : WorkheadSound s) : WorkheadSound (issueDrive s) :=
  h.congr (by simp) (by simp) (.of_blocks (by simp) (by simp) (by simp) (by simp))

theorem answer_workhead {f : Frame} {a : Answer} (h : WorkheadSound s) : WorkheadSound (answer f a s) :=
  h.congr (by simp) (by simp) (.of_blocks (by simp) (by simp) (by simp) (by simp))

theorem taken_workhead (h : WorkheadSound s) : WorkheadSound (s.setLink s.link.taken) :=
  h.congr rfl rfl (.of_blocks rfl rfl rfl rfl)

theorem takeRequest_workhead {f : Frame} {fits : Bool} {owner : State → State × Answer} (hq : QueueSound s) (h : WorkheadSound s)
    (ho : ∀ t, QueueSound t → WorkheadSound t → t.test.running = false → t.link.restartPending = false → WorkheadSound (owner t).1) :
    WorkheadSound (takeRequest f fits false owner s) := by
  refine takeRequest_acts h (fun a => answer_workhead (taken_workhead h)) fun ht hr => ?_
  exact answer_workhead (ho _ (hq.congr rfl rfl rfl) (taken_workhead h) (Bool.eq_false_iff.2 fun hrun => by cases ht hrun) hr)

theorem readRequest_workhead {f : Frame} {fits : Bool} {a : State → Answer} (h : WorkheadSound s) :
    WorkheadSound (readRequest f fits a s) :=
  takeRequest_acts h (fun _ => answer_workhead (taken_workhead h)) fun _ _ => answer_workhead (taken_workhead h)

/-! ### What the owners ask -/

/-- A chain of refusals is passed when none of its tests holds. -/
theorem refusals_passed {p : Prop} [Decidable p] {n : Nat} {rest : Option Nat} :
    (if p then some n else rest) = none ↔ ¬ p ∧ rest = none := by
  split <;> simp_all

/-- With nothing named as not at park everything is at park (R27). -/
theorem atPark_of_notParked (h : s.notParked = none) : AtPark s := by
  simp only [State.notParked, refusals_passed, not_not, Bool.not_eq_true] at h
  obtain ⟨hlo, hli, hri, hro, hl, hf, -⟩ := h
  refine ⟨fun u => ?_, hl, hf⟩
  cases u
  case lo => exact hlo
  case li => exact hli
  case ri => exact hri
  case ro => exact hro

/-- With neither a self-test nor a RESTART under way the job may go on to any state. -/
theorem IdleHeld.of_neither {t : State} (ht : t.test.running = false) (hr : t.link.restartPending = false) : IdleHeld t :=
  ⟨fun h => by simp [ht] at h, fun h => by simp [hr] at h⟩

/-- A job that runs is paused, or one that is paused runs again, with the same units at work. -/
theorem WorkheadSound.jobMoved {t : State} (h : WorkheadSound s) (hs : s.job.state = .running ∨ s.job.state = .paused)
    (hph : t.job.phase = s.job.phase) (hd : t.job.done = s.job.done) (he : t.entryInWork = s.entryInWork) (hu : t.units = s.units)
    (hl : t.llu = s.llu) (hj : s.llu.joinHold = none) (hi : IdleHeld t) : WorkheadSound t := by
  obtain ⟨hunits, hllu, hrest, -, -, hgate⟩ := h
  have hunit : ∀ u, t.unit u = s.unit u := fun u => by rw [State.unit, hu]; rfl
  refine ⟨fun u => hunit u ▸ hunits u, hl ▸ hllu, fun _ u hw => hunit u ▸ hrest hs u ?_, hi, fun hrun => by simp [hl, hj] at hrun,
    fun u hsq => hl ▸ hgate u (hunit u ▸ hsq)⟩
  rwa [State.atWork, hph, hd, he] at hw

/-- The join hold runs in a running job in HOLDING alone. -/
theorem WorkheadSound.noJoinHold (h : WorkheadSound s) (hn : s.job.state ≠ .running ∨ s.job.phase ≠ some .holding) :
    s.llu.joinHold = none := by
  obtain ⟨-, -, -, -, hjoin, -⟩ := h
  refine Option.not_isSome_iff_eq_none.1 fun hrun => ?_
  obtain ⟨hs, hp, -⟩ := hjoin hrun
  rcases hn with hn | hn
  · exact hn hs
  · exact hn hp

/-- A request that needs everything at park finds every unit PARKED and the LLU OPEN. -/
theorem WorkheadSound.parked_open (h : WorkheadSound s) (hp : s.notParked = none) : AllParked s ∧ s.llu.state = .isOpen := by
  obtain ⟨hu, hl, -⟩ := atPark_of_notParked hp
  exact ⟨h.allParked hu, hl⟩

/-! ### Parameters, the queue and the table -/

theorem parametersOwner_workhead {body : List Byte} (h : WorkheadSound s) : WorkheadSound (parametersOwner body s).1 := by
  unfold parametersOwner
  split
  · exact h
  · dsimp only
    split <;> exact h.congr (by simp) (by simp) (.of_blocks (by simp) (by simp) (by simp) (by simp))

/-- A loaded entry is READY, so no more entries are at work. -/
theorem entryInWork_load (e : Entry) : (s.setQueue (s.queue.load e)).entryInWork = s.entryInWork := by
  rw [Bool.eq_iff_iff, entryInWork_iff, entryInWork_iff]
  simp [WorkQueue.load, readySlot, SlotState.working, or_and_right, exists_or]

theorem loadOwner_workhead {body : List Byte} (hq : QueueSound s) (h : WorkheadSound s) : WorkheadSound (loadOwner body s).1 := by
  unfold loadOwner
  dsimp only
  split
  · exact h
  · next hr =>
    have hloaded : WorkheadSound (s.setQueue (s.queue.load (clampEntry (decodeEntry body)))) :=
      h.congr rfl rfl ⟨rfl, rfl, rfl, entryInWork_load _, id, id⟩
    exact issueDrive_workhead (entryLoaded_workhead (load_queueSound hq hr) hloaded)

/-- A collection takes finished slots alone, so the entry at work stays (R19). -/
theorem collectFront_working (held : Bool) (n : Nat) (l : List Slot) :
    (collectFront held n l).2.any (·.state.working) = l.any (·.state.working) := by
  induction n generalizing l with
  | zero => rfl
  | succ n ih =>
    cases l with
    | nil => rfl
    | cons x rest =>
      rw [collectFront]
      split
      · next ht =>
        have hx : x.state.finished = true := by
          simp only [takesFront, Bool.and_eq_true] at ht
          obtain ⟨⟨hx, -⟩, -⟩ := ht
          exact hx
        obtain ⟨hna, hnf⟩ := SlotState.finished_idle hx
        have hidle : x.state.working = false := Bool.eq_false_iff.2 fun hw => (SlotState.working_iff.1 hw).elim hna hnf
        rw [ih, List.any_cons, hidle, Bool.false_or]
      · rfl

theorem collectOwner_workhead (h : WorkheadSound s) : WorkheadSound (collectOwner s).1 := by
  refine h.congr rfl rfl ⟨rfl, rfl, rfl, ?_, id, id⟩
  simpa [State.entryInWork, WorkQueue.activePos, collectOwner, WorkQueue.afterCollect] using
    collectFront_working s.heldUnderRelease 6 s.queue.slots

theorem clearOwner_workhead (h : WorkheadSound s) : WorkheadSound (clearOwner s).1 := by
  unfold clearOwner
  split
  · exact h
  · next hs => exact h.whileIdle (not_not.1 hs) (not_not.1 hs) rfl rfl

theorem openOwner_workhead {body : List Byte} (h : WorkheadSound s) : WorkheadSound (openOwner body s).1 := by
  unfold openOwner
  dsimp only
  (repeat' split) <;> exact h.congr rfl rfl (.of_blocks rfl rfl rfl rfl)

theorem segmentOwner_workhead {body : List Byte} (h : WorkheadSound s) : WorkheadSound (segmentOwner body s).1 := by
  unfold segmentOwner
  dsimp only
  split <;> exact h.congr rfl rfl (.of_blocks rfl rfl rfl rfl)

theorem closeOwner_workhead (h : WorkheadSound s) : WorkheadSound (closeOwner s).1 := by
  unfold closeOwner
  split
  · exact h
  · exact h.congr rfl rfl (.of_blocks rfl rfl rfl rfl)

/-! ### The job -/

section
variable (htest : s.test.running = false) (hrestart : s.link.restartPending = false)
include htest hrestart

theorem startOwner_workhead (hq : QueueSound s) (h : WorkheadSound s) : WorkheadSound (startOwner s).1 := by
  unfold startOwner
  split
  · exact h
  · next hs =>
    have hrest : s.queue.AtRest := hq.atRest_idle (not_not.1 hs)
    split
    · exact h
    · next hk =>
      split
      · exact h
      · next hp =>
        split
        · exact h
        · obtain ⟨hparked, -⟩ := h.parked_open hp
          obtain ⟨-, hl, -⟩ := id hparked
          have hprepared : AllParked (prepareJob s) := hparked.congr rfl hl (.of_neither htest hrestart)
          exact issueDrive_workhead (reportJob_workhead (activateSlot_workhead hrest rfl hprepared hk))

theorem pauseOwner_workhead (h : WorkheadSound s) : WorkheadSound (pauseOwner s).1 := by
  unfold pauseOwner
  split
  · exact h
  · next hs =>
    split
    · next hp =>
      have hj : s.llu.joinHold = none := h.noJoinHold (.inr (by rcases hp with hp | hp <;> simp [hp]))
      exact h.jobMoved (.inl (not_not.1 hs)) (by simp [pauseNow]) (by simp [pauseNow]) (by simp [pauseNow, State.entryInWork])
        (by simp [pauseNow]) (by simp [pauseNow]) hj (.of_neither (by simpa [pauseNow] using htest) (by simpa [pauseNow] using hrestart))
    · exact h.congr rfl rfl ⟨rfl, rfl, rfl, rfl, id, id⟩

theorem resumePhase_workhead (hq : QueueSound s) (h : WorkheadSound s) (hs : s.job.state = .paused) :
    WorkheadSound (resumePhase (s.setJob { s.job with state := .running })) := by
  have hj : s.llu.joinHold = none := h.noJoinHold (.inl (by simp [hs]))
  have hi : IdleHeld (s.setJob { s.job with state := .running }) := .of_neither htest hrestart
  have hruns : WorkheadSound (s.setJob { s.job with state := .running }) := h.jobMoved (.inr hs) rfl rfl rfl rfl rfl hj hi
  have hparked (hw : ∀ u, s.atWork u = false) : AllParked (s.setJob { s.job with state := .running }) := by
    have hp := h.allParked_atRest (.inr hs) hw
    obtain ⟨-, hl, -⟩ := id hp
    exact hp.congr rfl hl hi
  unfold resumePhase
  simp only [State.setJob_reads]
  split
  case h_1 => exact hruns.congr (by simp) (by simp) (.of_blocks (by simp) (by simp) (by simp) (by simp))
  case h_2 hp =>
    split
    · next hk =>
      exact activateSlot_workhead (hq.atRest_starved (.inr hs) hp) rfl (hparked fun u => by simp [State.atWork, hp]) hk
    · exact hruns
  case h_3 hp => exact nextOrStarve_workhead (hq.atRest_paused hs hp) rfl (hparked fun u => by simp [State.atWork, hp]) hj
  all_goals exact hruns

theorem resumeOwner_workhead (hq : QueueSound s) (h : WorkheadSound s) : WorkheadSound (resumeOwner s).1 := by
  unfold resumeOwner
  split
  · exact h
  · next hs => exact issueDrive_workhead (reportJob_workhead (resumePhase_workhead htest hrestart hq h (not_not.1 hs)))

end

end

end Sys2Proof.Machine

namespace Sys2Proof.Machine

section
variable {s : State}

/-! ### A halted job, and the retreat orders -/

/-- The FAULTED slot of a retry, with one retry more. -/
theorem retried_queue {k : Nat} {x : Slot} (hq : QueueSound s) (hf : s.faultedSlot = some (k, x)) (hr : x.retries < 3) :
    (s.queue.modify k fun y => { y with retries := y.retries + 1 }).Ordered ∧
    (s.queue.modify k fun y => { y with retries := y.retries + 1 }).SplitsAt k ∧
    (s.queue.modify k fun y => { y with retries := y.retries + 1 }).slots[k]? = some { x with retries := x.retries + 1 } := by
  obtain ⟨hx, hst⟩ := State.faultedSlot_some hf
  have hsplit := hq.1.splitsAt_working hx (by simp [hst, SlotState.working])
  refine ⟨hq.1.modify_split hsplit fun y hy => ?_, hsplit.modify, by simp [WorkQueue.modify, hx]⟩
  obtain rfl : x = y := Option.some_inj.1 (hx.symm.trans hy)
  exact ⟨rfl, rfl, by simp [hst], hr⟩

section
variable (htest : s.test.running = false) (hrestart : s.link.restartPending = false)
include htest hrestart

theorem retryOwner_workhead (hq : QueueSound s) (h : WorkheadSound s) : WorkheadSound (retryOwner s).1 := by
  unfold retryOwner
  split
  · exact h
  · split
    · exact h
    · next k x hf =>
      split
      · exact h
      · next hp =>
        split
        · exact h
        · next hr =>
          obtain ⟨hordered, hsplit, hslot⟩ := retried_queue hq hf (Nat.lt_of_not_le hr)
          obtain ⟨hparked, -⟩ := h.parked_open hp
          obtain ⟨-, hl, -⟩ := id hparked
          have hready : AllParked (leaveHalt (s.setQueue (s.queue.modify k fun y => { y with retries := y.retries + 1 }))) :=
            hparked.congr rfl hl (.of_neither htest hrestart)
          exact issueDrive_workhead (reportJob_workhead
            (testEndOfWork_workhead (activate_queueSound hordered hsplit hslot rfl) (activate_workhead hready hslot)))

theorem skipOwner_workhead (hq : QueueSound s) (h : WorkheadSound s) : WorkheadSound (skipOwner s).1 := by
  unfold skipOwner
  split
  · exact h
  · next hs =>
    split
    · exact h
    · next hp =>
      obtain ⟨hparked, hopen⟩ := h.parked_open hp
      obtain ⟨-, hl, -⟩ := id hparked
      have hj : s.llu.joinHold = none := hl.noJoinHold (by simp [hopen])
      split
      · next x _ =>
        refine issueDrive_workhead (finishTests_workhead ?_ rfl (hparked.congr ?_ ?_ (.of_neither ?_ ?_)) ?_)
        · simpa [leaveHalt, skipFaulted] using finishActive_atRest (final := .skipped) (by simpa using hq.1) rfl
        all_goals simp [leaveHalt, skipFaulted, baseToTarget, *]
      · next hf =>
        refine issueDrive_workhead (nextOrStarve_workhead ?_ rfl (hparked.congr ?_ ?_ (.of_neither ?_ ?_)) ?_)
        · simpa [leaveHalt] using State.faultedSlot_none hq (not_not.1 hs) hf
        all_goals simp [leaveHalt, *]

end

theorem abortOwner_workhead (h : WorkheadSound s) : WorkheadSound (abortOwner s).1 := by
  unfold abortOwner
  split
  · exact h
  · obtain ⟨hunits, hl, -⟩ := h
    refine commonRetreat_workhead (fun u => ?_) (by simpa using hl) ⟨fun _ => ?_, fun _ => ?_⟩ (.inl ?_)
    · simpa [State.unit] using hunits u
    all_goals simp

theorem parkAllOwner_workhead (h : WorkheadSound s) : WorkheadSound (parkAllOwner s).1 := by
  unfold parkAllOwner
  split
  · next hs =>
    obtain ⟨hunits, hl, -, hi, -⟩ := h
    exact commonRetreat_workhead hunits hl hi hs
  · exact h

/-! ### The self-test and the restart -/

theorem startItem_workhead {gi : Nat × Nat} {rest : List (Nat × Nat)} (h : WorkheadSound s) (hs : s.job.state = .idle) :
    WorkheadSound (startItem gi rest s) := h.whileIdle hs (by simpa using hs) (by simp) (by simp)

theorem selfTestOwner_workhead {body : List Byte} (h : WorkheadSound s) : WorkheadSound (selfTestOwner body s).1 := by
  unfold selfTestOwner
  dsimp only
  split
  · exact h
  · next hs =>
    rw [not_not] at hs
    split
    · exact h
    · split
      · exact h
      · exact startItem_workhead (h.whileIdle hs hs rfl rfl) hs

theorem restartOwner_workhead (h : WorkheadSound s) : WorkheadSound (restartOwner s).1 := by
  unfold restartOwner
  split
  · exact h
  · next hs => exact h.whileIdle (not_not.1 hs) (not_not.1 hs) rfl rfl

/-- A self-test runs with the job IDLE, so its items touch neither the units nor the LLU (R187). -/
theorem judgeItem_workhead (h : WorkheadSound s) (ht : s.test.running = true) : WorkheadSound (judgeItem s) := by
  obtain ⟨-, -, -, ⟨htest, -⟩, -⟩ := id h
  exact h.whileIdle (htest ht) (by simpa using htest ht) (by simp) (by simp)

theorem endTest_workhead {f : Option FailureRecord} (h : WorkheadSound s) (ht : s.test.running = true) : WorkheadSound (endTest f s) := by
  obtain ⟨-, -, -, ⟨htest, -⟩, -⟩ := id h
  exact h.whileIdle (htest ht) (by simpa using htest ht) (by simp) (by simp)

/-! ## The resets keep the workhead sound (R120, R144, R173, R186) -/

theorem TUnit.atPowerOn_shaped (park : Bool) : (TUnit.atPowerOn park).Shaped := by
  cases park <;> exact TUnit.shaped_resting (Nat.zero_le _) rfl rfl rfl rfl rfl

theorem Llu.atPowerOn_shaped (clampsOpen : Bool) : (Llu.atPowerOn clampsOpen).Shaped := by
  cases clampsOpen <;> exact Llu.shaped_quiet (Nat.zero_le _) rfl rfl rfl (by simp [Llu.atPowerOn]) (fun _ => rfl) (by simp [Llu.atPowerOn])
    (by simp [Llu.atPowerOn])

/-- With the job IDLE, the units and the LLU in their tables, none squeezing, and no join hold. -/
theorem workheadSound_idle (hs : s.job.state = .idle) (hu : ∀ u, (s.unit u).Shaped) (hl : s.llu.Shaped) (hj : s.llu.joinHold = none)
    (hg : ∀ u, (s.unit u).state ≠ .squeezing) : WorkheadSound s :=
  ⟨hu, hl, fun hr => by simp [hs] at hr, ⟨fun _ => hs, fun _ => hs⟩, fun hrun => by simp [hj] at hrun, fun u hsq => absurd hsq (hg u)⟩

/-- A RESTART empties a unit's settings, and a unit in a motion state asks for its grant again (R120). -/
theorem restartUnit_workhead {u : UnitId} (h : WorkheadSound s) : WorkheadSound (restartUnit u s) := by
  obtain ⟨hunits, -, -, -, -, hgate⟩ := id h
  unfold restartUnit
  dsimp only
  rw [changeUnit_step]
  split
  · next hm =>
    obtain ⟨hsq, hop, hheld, hstuck, hpark⟩ := UnitState.motion_open hm
    rw [cancelUnit_step, enterMotion_step]
    simp only [unitStep_reads, unitStep_unitStep]
    exact h.unitStep (TUnit.shaped_waiting (hunits u).number_le rfl rfl rfl hm ((hunits u).tinesOpen ⟨hsq, hop, hheld, hstuck⟩))
      (fun hp => absurd hp hpark) (fun hst => absurd hst hsq)
  · exact h.unitStep (hunits u) id (hgate u)

theorem restartUnits_workhead (h : WorkheadSound s) : WorkheadSound (restartUnits s) :=
  restartUnit_workhead (restartUnit_workhead (restartUnit_workhead (restartUnit_workhead h)))

/-- A RESTART empties the LLU's values, and a RELEASING one asks for its grant again (R144). -/
theorem restartLlu_workhead (h : WorkheadSound s) : WorkheadSound (restartLlu s) := by
  obtain ⟨-, hl, -, -, -, hgate⟩ := id h
  unfold restartLlu
  dsimp only
  split
  · next hst =>
    rw [changeLlu_step, cancelLlu_step, changeLlu_step]
    refine h.lluChanged_offDemand rfl (.of_blocks rfl rfl rfl rfl) ?_ id (by simp [hst])
    exact Llu.shaped_waiting hl.number_le rfl rfl rfl (.inr hst) (hl.noJoinHold (by simp [hst])) (hl.noSettle (by simp [hst]))
  · exact h.lluChanged rfl (.of_blocks rfl rfl rfl rfl) hl id hgate

/-- A RESTART takes effect with the job IDLE (R185). -/
theorem restartBlocks_workhead (h : WorkheadSound s) (hs : s.job.state = .idle) : WorkheadSound (restartBlocks s) :=
  restartLlu_workhead (restartUnits_workhead (h.whileIdle hs rfl rfl rfl))

/-! ## The stop line keeps the workhead sound (R138, R139, R160) -/

theorem lineAsserted_workhead (h : WorkheadSound s) : WorkheadSound s.lineAsserted := by
  obtain ⟨hunits, hl, -⟩ := id h
  have hrunning : s.test.halted.running = true → s.test.running = true := fun hr => by
    unfold SelfTest.halted at hr
    split at hr
    · assumption
    · exact hr
  have hpending : (s.test.reports s.link).restartPending = s.link.restartPending := by
    unfold SelfTest.reports
    split
    · exact Link.place_restartPending ..
    · rfl
  refine h.kept ⟨rfl, rfl, rfl, rfl, hrunning, fun hr => hpending ▸ hr⟩ (fun u => ?_) hl.stopped (fun u hp => ?_) (fun hrun => ?_)
    fun u hsq => ?_
  · rw [lineAsserted_unit]
    exact (hunits u).stopped _
  · rw [lineAsserted_unit, TUnit.stopped, hp]
    exact hp
  · have hj : s.lineAsserted.llu.joinHold = none := hl.stopped.noJoinHold (by rcases s.llu.stopped_state with h | h | h | h <;> simp [h])
    simp [hj] at hrun
  · have hrest := (s.unit u).stopped_resting s.entryInWork
    rw [← lineAsserted_unit, hsq] at hrest
    cases hrest

/-- A HELD unit leaves its place, and no other. -/
theorem TUnit.resumed_state (x : TUnit) : (x.state ≠ .held → x.resumed = x) ∧ (x.state = .held → x.resumed.state ≠ .squeezing) := by
  refine ⟨fun hst => if_pos hst, fun hst => ?_⟩
  rw [TUnit.resumed, if_neg (by simp [hst])]
  split <;> simp [TUnit.sentOpening, TUnit.asks]

theorem lineFreed_workhead (h : WorkheadSound s) : WorkheadSound s.lineFreed := by
  obtain ⟨hunits, hl, -, -, -, hgate⟩ := id h
  have hunit (u : UnitId) : s.lineFreed.unit u = (s.unit u).resumed := Quad.get_map ..
  have hllu : s.llu.state = .held ∨ s.lineFreed.llu = s.llu := by
    by_cases hst : s.llu.state = .held
    · exact .inl hst
    · exact .inr (if_pos hst)
  have hfreed : s.lineFreed.llu.Shaped := hl.lineReleased
  have hjoin : s.lineFreed.llu.joinHold.isSome = true → s.llu.joinHold.isSome = true := by
    unfold State.lineFreed Llu.lineReleased
    dsimp only
    split
    · exact id
    · split <;> exact id
  refine h.kept (.of_blocks rfl rfl rfl rfl) (fun u => hunit u ▸ (hunits u).resumed) hfreed (fun u hp => ?_) hjoin fun u hsq => ?_
  · rw [hunit, (TUnit.resumed_state _).1 (by simp [hp]), hp]
  · rw [hunit] at hsq
    by_cases hst : (s.unit u).state = .held
    · exact absurd hsq ((TUnit.resumed_state _).2 hst)
    · rw [(TUnit.resumed_state _).1 hst] at hsq
      have hdemand := hgate u hsq
      rcases hllu with hheld | hsame
      · simp [hheld] at hdemand
      · rwa [hsame]

end

end Sys2Proof.Machine

namespace Sys2Proof.Machine

/-! ## The line's bytes bear on no RESTART (R176 to R178, R182) -/

theorem Link.hunt_restartPending (l : Link) (b : Byte) : (l.hunt b).restartPending = l.restartPending := by
  unfold Link.hunt
  split <;> rfl

theorem Link.judge_restartPending (l : Link) (body : List Byte) (check : Word) :
    (l.judge body check).restartPending = l.restartPending := by
  unfold Link.judge
  dsimp only
  split
  · unfold Link.arrive
    (repeat' split) <;> rfl
  · rfl

theorem Link.receive_restartPending (l : Link) (b : Byte) : (l.receive b).restartPending = l.restartPending := by
  unfold Link.receive
  split
  · exact l.hunt_restartPending b
  · rfl
  · unfold Link.lengthFormed
    dsimp only
    (repeat' split)
    · rfl
    · rfl
    · exact l.hunt_restartPending _
  · split <;> rfl
  · rfl
  · exact l.judge_restartPending ..

theorem Link.gapExpired_restartPending (l : Link) : l.gapExpired.restartPending = l.restartPending := by
  unfold Link.gapExpired
  split <;> rfl

theorem Link.sent_restartPending (l : Link) : l.sent.restartPending = l.restartPending := by
  unfold Link.sent
  split <;> rfl

/-! ## Every command keeps the workhead sound -/

section
variable {s : State}

theorem lineEvent_workhead {l : Link} (h : WorkheadSound s) (hl : l.restartPending = s.link.restartPending) :
    WorkheadSound (startSending (s.setLink l)) :=
  h.congr (by simp) (by simp) (.of_blocks (by simp) (by simp) (by simp) (by simp [startSending, hl]))

/-- A guarded event keeps the workhead sound when what it does under its guard keeps it. -/
theorem ite_workhead {p : Prop} [Decidable p] {t : State} (h : WorkheadSound s) (ht : p → WorkheadSound t) :
    WorkheadSound (if p then t else s) := by
  split
  · next hp => exact ht hp
  · exact h

theorem powerOn_workhead {park : Quad Bool} {clampsOpen stopLine : Bool} {t : State}
    (ht : exec (.powerOn park clampsOpen stopLine) s = .next t) : WorkheadSound t := by
  cases ht
  have hunit (u : UnitId) : (park.map TUnit.atPowerOn).get u = TUnit.atPowerOn (park.get u) := Quad.get_map ..
  refine workheadSound_idle (by simp [Job.atPowerOn]) (fun u => ?_) (by simpa using Llu.atPowerOn_shaped _) (by simp [Llu.atPowerOn]) fun u => ?_
  · simpa [State.unit, hunit] using TUnit.atPowerOn_shaped _
  · cases hp : park.get u <;> simp [State.unit, hunit, TUnit.atPowerOn, hp]

/-- The take of a frame of unknown kind answers, and no more (R180). -/
theorem unknownKind_workhead {f : Frame} {a : Answer} {p : Prop} [Decidable p] (h : WorkheadSound s) :
    WorkheadSound (if p then answer f a (s.setLink s.link.taken) else s) := ite_workhead h fun _ => answer_workhead (taken_workhead h)

/-! ### Completions and expiries by their guards (R121, R145) -/

theorem unitCompletion_workhead {u : UnitId} {g : Prop} [Decidable g] {p : UnitOrder → Bool} {n : Nat} {t : State} (h : WorkheadSound s)
    (ht : g → (s.unit u).waiting = false → WorkheadSound t) :
    WorkheadSound (if g ∧ (s.unit u).awaits p n then unitEvent t else s) := by
  obtain ⟨hunits, -⟩ := id h
  exact ite_workhead h fun ⟨hg, ha⟩ => unitEvent_workhead (ht hg ((hunits u).awaited ha))

theorem lluCompletion_workhead {g : Prop} [Decidable g] {p : LluOrder → Bool} {n : Nat} {t : State} (h : WorkheadSound s)
    (ht : g → s.llu.waiting = false → s.llu.order.isSome = true → WorkheadSound t) :
    WorkheadSound (if g ∧ s.llu.awaits p n then lluEvent t else s) := by
  obtain ⟨-, hl, -⟩ := id h
  refine ite_workhead h fun ⟨hg, ha⟩ => unitEvent_workhead ?_
  obtain ⟨hw, ho⟩ := hl.awaited ha
  exact ht hg hw ho

/-- A motion of a unit but its lowering runs out of its time (R134). -/
theorem unitTimeout_workhead {u : UnitId} {p : Prop} [Decidable p] (h : WorkheadSound s) (hp : p → (s.unit u).timer.isSome = true) :
    WorkheadSound (if p then unitStuck u s else s) := ite_workhead h fun ht => unitStuck_workhead h (hp ht)

theorem TUnit.timed_iff {x : TUnit} {st : UnitState} : x.timed st = true ↔ x.state = st ∧ x.timer.isSome = true := by
  simp [TUnit.timed]

theorem lluExpiry_workhead {st : LluState} {t : State} (h : WorkheadSound s)
    (ht : s.llu.state = st → s.llu.waiting = false → WorkheadSound t) : WorkheadSound (if s.llu.timed st then lluEvent t else s) := by
  obtain ⟨-, hl, -⟩ := id h
  refine ite_workhead h fun hp => unitEvent_workhead ?_
  obtain ⟨hst, hrun⟩ : s.llu.state = st ∧ s.llu.timer.isSome = true := by simpa [Llu.timed] using hp
  exact ht hst (hl.timed hrun).1

/-- The flags a lifting ends with are no part of the table (R150). -/
theorem liftFlagged_workhead {f : Llu → Llu} (hq : QueueSound s) (h : WorkheadSound s) (hst : s.llu.state = .lifting)
    (hf : (f s.llu).Shaped ∧ (f s.llu).state = s.llu.state ∧ (f s.llu).joinHold = s.llu.joinHold) :
    WorkheadSound (testEndOfWork (reachDemand (changeLlu f s))) := by
  obtain ⟨hshape, hstate, hj⟩ := hf
  exact liftEnded_workhead hq (h.lluChanged_offDemand rfl (.of_blocks rfl rfl rfl rfl) hshape (fun hrun => hj ▸ hrun) (by simp [hst]))
    (hstate.trans hst)

/-! ### The step -/

/-- Whatever a command answers, the workhead is sound when it was before, with the ring and the job in step. -/
theorem exec_workhead (c : Instr) {t : State} (hq : QueueSound s) (h : WorkheadSound s) (ht : exec c s = .next t) :
    WorkheadSound t := by
  obtain ⟨hunits, hl, -⟩ := id h
  cases c with
  | powerOn park clampsOpen stopLine => exact powerOn_workhead ht
  | identify tag body | readStatus tag body | readParameters tag body | readQueue tag body | readTable tag body
  | readMeasurement tag body | readTrail tag body => cases ht; exact readRequest_workhead h
  | setParameters tag body => cases ht; exact takeRequest_workhead hq h fun _ _ h _ _ => parametersOwner_workhead h
  | loadEntry tag body => cases ht; exact takeRequest_workhead hq h fun _ hq h _ _ => loadOwner_workhead hq h
  | collectResults tag body => cases ht; exact takeRequest_workhead hq h fun _ _ h _ _ => collectOwner_workhead h
  | clearQueue tag body => cases ht; exact takeRequest_workhead hq h fun _ _ h _ _ => clearOwner_workhead h
  | startJob tag body => cases ht; exact takeRequest_workhead hq h fun _ hq h hr hp => startOwner_workhead hr hp hq h
  | pauseJob tag body => cases ht; exact takeRequest_workhead hq h fun _ _ h hr hp => pauseOwner_workhead hr hp h
  | resumeJob tag body => cases ht; exact takeRequest_workhead hq h fun _ hq h hr hp => resumeOwner_workhead hr hp hq h
  | retryEntry tag body => cases ht; exact takeRequest_workhead hq h fun _ hq h hr hp => retryOwner_workhead hr hp hq h
  | skipEntry tag body => cases ht; exact takeRequest_workhead hq h fun _ hq h hr hp => skipOwner_workhead hr hp hq h
  | abortJob tag body => cases ht; exact takeRequest_workhead hq h fun _ _ h _ _ => abortOwner_workhead h
  | parkAll tag body => cases ht; exact takeRequest_workhead hq h fun _ _ h _ _ => parkAllOwner_workhead h
  | openTable tag body => cases ht; exact takeRequest_workhead hq h fun _ _ h _ _ => openOwner_workhead h
  | tableSegment tag body => cases ht; exact takeRequest_workhead hq h fun _ _ h _ _ => segmentOwner_workhead h
  | closeTable tag body => cases ht; exact takeRequest_workhead hq h fun _ _ h _ _ => closeOwner_workhead h
  | selfTest tag body => cases ht; exact takeRequest_workhead hq h fun _ _ h _ _ => selfTestOwner_workhead h
  | restart tag body => cases ht; exact takeRequest_workhead hq h fun _ _ h _ _ => restartOwner_workhead h
  | unknownKindRequest kind tag body => cases ht; exact unknownKind_workhead h
  | byteReceived b => cases ht; exact lineEvent_workhead h (Link.receive_restartPending ..)
  | frameReceived b => cases ht; exact ite_workhead h fun _ => lineEvent_workhead h (Link.receive_restartPending ..)
  | interByteTimeout => cases ht; exact h.congr rfl rfl (.of_blocks rfl rfl rfl (Link.gapExpired_restartPending _))
  | frameSent => cases ht; exact lineEvent_workhead h (Link.sent_restartPending _)
  | restartEffect =>
    cases ht
    refine ite_workhead h fun hdue => conclude_workhead (reportJob_workhead ?_)
    obtain ⟨-, -, -, ⟨-, hpending⟩, -⟩ := id h
    simp only [Link.restartDue, Bool.and_eq_true] at hdue
    obtain ⟨hdue, -⟩ := hdue
    have hidle : s.job.state = .idle := hpending hdue
    exact restartBlocks_workhead (h.whileIdle hidle hidle rfl rfl) hidle
  | sampleArrival sample => cases ht; exact takeSampleStep_workhead hq h
  | sampleTimerExpiry => cases ht; exact ite_workhead h fun _ => takeSampleStep_workhead hq h
  | odometerStep mm => cases ht; exact unitEvent_workhead (afterStep_workhead (h.congr rfl rfl (.of_blocks rfl rfl rfl rfl)))
  | positionSettleExpiry => cases ht; exact ite_workhead h fun _ => unitEvent_workhead (judgeRest_workhead h)
  | stopLineAssertion =>
    cases ht
    split
    · exact h
    · rw [assertStopLine_eq]
      exact unitEvent_workhead (raiseFault_workhead (lineAsserted_workhead h))
  | stopLineRelease =>
    cases ht
    refine ite_workhead h fun _ => ?_
    rw [releaseStopLine_eq hunits]
    exact unitEvent_workhead (lineFreed_workhead h)
  | unitGrant u => cases ht; exact unitEvent_workhead (takeUnitGrant_workhead h)
  | lluGrant => cases ht; exact unitEvent_workhead (takeLluGrant_workhead h)
  | shiftReached u n => cases ht; exact unitCompletion_workhead h fun hst hw => shiftDone_workhead h hst hw
  | depthReached u n => cases ht; exact unitCompletion_workhead h fun hst hw => depthDone_workhead h hst hw
  | tinesOpen u n => cases ht; exact unitCompletion_workhead h fun hst _ => tinesDone_workhead h hst
  | atMid u n => cases ht; exact unitCompletion_workhead h fun hst _ => midDone_workhead h hst
  | atPark u n => cases ht; exact unitCompletion_workhead h fun hst hw => parkDone_workhead hq h hst hw
  | shiftTimeout u | openTimeout u | raiseMidTimeout u =>
    cases ht
    exact unitTimeout_workhead h fun hp => (TUnit.timed_iff.1 hp).2
  | raiseParkTimeout u =>
    cases ht
    refine unitTimeout_workhead h fun hp => ?_
    rcases Bool.or_eq_true_iff.1 hp with hp | hp <;> exact (TUnit.timed_iff.1 hp).2
  | insertionTimerExpiry u =>
    cases ht
    exact ite_workhead h fun hp => unitEvent_workhead (insertionExpired_workhead h (TUnit.timed_iff.1 hp).1)
  | squeezeTimerExpiry u =>
    cases ht
    exact ite_workhead h fun hp => unitEvent_workhead (squeezeExpired_workhead h (TUnit.timed_iff.1 hp).1)
  | clamped n => cases ht; exact lluCompletion_workhead h fun hst hw ho => clampDone_workhead h hst hw ho
  | forceLimit n => cases ht; exact lluCompletion_workhead h fun hst _ _ => liftFlagged_workhead hq h hst ⟨hl, rfl, rfl⟩
  | unclamped n => cases ht; exact lluCompletion_workhead h fun hst hw _ => unclampDone_workhead h hst hw
  | clampTimeout => cases ht; exact lluExpiry_workhead h fun hst hw => clampFailed_workhead h (.inl hst) hw
  | unclampTimeout => cases ht; exact lluExpiry_workhead h fun hst hw => clampFailed_workhead h (.inr hst) hw
  | liftTimerExpiry => cases ht; exact lluExpiry_workhead h fun hst _ => liftFlagged_workhead hq h hst ⟨hl, rfl, rfl⟩
  | joinHoldExpiry => cases ht; exact ite_workhead h fun ⟨hst, hrun⟩ => unitEvent_workhead (giveUpHold_workhead h hst hrun)
  | lluSettleExpiry => cases ht; exact ite_workhead h fun hp => lluSettled_workhead h hp.1
  | valveReadback valve position => cases ht; exact ite_workhead h fun _ => h.congr rfl rfl ⟨rfl, rfl, rfl, rfl, id, id⟩
  | selfTestItemExpiry => cases ht; exact ite_workhead h fun hp => conclude_workhead (judgeItem_workhead h hp.1)
  | memoryMismatch wordRead wordWritten =>
    cases ht
    refine ite_workhead h fun hp => conclude_workhead (endTest_workhead h ?_)
    simp only [SelfTest.inGroup, Bool.and_eq_true] at hp
    obtain ⟨⟨hrunning, -⟩, -⟩ := hp
    exact hrunning

end

end Sys2Proof.Machine

section
open Sys2Proof Sys2Proof.Machine

/-- Settles O57: whatever the command at the front is, its own lemma tells that the workhead stays sound. -/
theorem stepKeepsWorkheadSound : Obligations.StepKeepsWorkheadSound := by
  unfold Obligations.StepKeepsWorkheadSound
  intro s t hq h ht
  unfold step at ht
  split at ht
  · cases ht
    exact h
  · next c rest _ => exact exec_workhead (s := { s with pending := rest }) c hq h ht

end

namespace Sys2Proof.Machine

/-! ## The completions of a unit (R121, R124 to R136) -/

/-- A unit awaits the completion of its outstanding order, by kind and number (R121). -/
theorem TUnit.awaits_iff {x : TUnit} {p : UnitOrder → Bool} {n : Nat} :
    x.awaits p n = true ↔ ∃ o, x.order = some (o, n) ∧ p o = true := by
  unfold TUnit.awaits
  split
  · next o m ho =>
    rw [Bool.and_eq_true, beq_iff_eq]
    constructor
    · rintro ⟨hp, rfl⟩
      exact ⟨o, ho, hp⟩
    · rintro ⟨o', ho', hp⟩
      obtain ⟨rfl, rfl⟩ : o = o' ∧ m = n := by simpa using ho.symm.trans ho'
      exact ⟨hp, rfl⟩
  · next ho => simp [ho]

theorem UnitOrder.isShift_iff {o : UnitOrder} : o.isShift = true ↔ ∃ mm mask, o = .shift mm mask := by
  cases o <;> simp [UnitOrder.isShift]

theorem UnitOrder.isLower_iff {o : UnitOrder} : o.isLower = true ↔ ∃ mm, o = .lower mm := by
  cases o <;> simp [UnitOrder.isLower]

section
variable {u : UnitId} {s : State}

/-- A completion that the unit awaits in its state is taken. -/
theorem completion_taken {st : Prop} [Decidable st] {p : UnitOrder → Bool} {n : Nat} {o : UnitOrder} {t : State} (hst : st)
    (ho : (s.unit u).order = some (o, n)) (hp : p o = true) :
    Host.Outcome.next (φ := Fault) (ρ := Refusal) (if st ∧ (s.unit u).awaits p n then t else s) = .next t :=
  congrArg Host.Outcome.next (if_pos ⟨hst, TUnit.awaits_iff.2 ⟨o, ho, hp⟩⟩)

/-- A completion of another kind or number is ignored (R121). -/
theorem completion_ignored {st : Prop} [Decidable st] {p : UnitOrder → Bool} {n : Nat} {t : State}
    (h : ∀ o, p o = true → (s.unit u).order ≠ some (o, n)) :
    Host.Outcome.next (φ := Fault) (ρ := Refusal) (if st ∧ (s.unit u).awaits p n then t else s) = .next s := by
  refine congrArg Host.Outcome.next (if_neg fun ⟨_, ha⟩ => ?_)
  obtain ⟨o, ho, hp⟩ := TUnit.awaits_iff.1 ha
  exact h o hp ho

/-! ### The retreat about a unit's event -/

/-- Giving a grant back and asking for another is no retreat. -/
theorem NoRetreat.released (h : NoRetreat s) (x : TUnit) (orders : List FieldOrder) :
    NoRetreat (s.unitStep u x (s.arb.release (.unit u)) orders) := ⟨(Arbiter.release_keeps _ _).1.trans h.1, h.2⟩

theorem NoRetreat.requested (h : NoRetreat s) (x : TUnit) (orders : List FieldOrder) :
    NoRetreat (s.unitStep u x (s.arb.request (.unit u)) orders) := ⟨(Arbiter.request_keeps _ _).1.trans h.1, h.2⟩

theorem NoRetreat.exchanged (h : NoRetreat s) (x : TUnit) (orders : List FieldOrder) :
    NoRetreat (s.unitStep u x ((s.arb.release (.unit u)).request (.unit u)) orders) :=
  ⟨(Arbiter.request_keeps _ _).1.trans ((Arbiter.release_keeps _ _).1.trans h.1), h.2⟩

/-- While a unit is RETREATING the retreat goes on, and the LLU does not release (R38, R159). -/
theorem followRetreat_retreating (h : (s.unit u).state = .retreating) : followRetreat s = s := by
  have hparked : s.allParked = false := Bool.eq_false_iff.2 fun hp => by simp [(allParked_iff s).1 hp u] at h
  have hover : (s.retreatComplete || s.retreatStalled) = false := Bool.eq_false_iff.2 fun hr => by
    rcases (retreatOver_iff s).1 hr with ⟨hp, -⟩ | ⟨hn, -⟩
    · simp [hp u] at h
    · exact (hn u).1 h
  have hrelease : lluRetreatRelease s = s := if_neg (by simp [hparked])
  rw [followRetreat, hrelease]
  exact if_neg (by simp [hover])

/-- An event that leaves its unit RETREATING changes that unit, the arbiter, the drive and the line alone. -/
theorem unitEvent_unitMoved_retreating {x : TUnit} {a : Arbiter} {orders : List FieldOrder} (h : x.state = .retreating) :
    UnitMoved u x a orders s (unitEvent (s.unitStep u x a orders)) := by
  have hfollow : followRetreat (s.unitStep u x a orders) = s.unitStep u x a orders :=
    followRetreat_retreating (u := u) (by rwa [(unitStep_reads ..).1])
  rw [unitEvent, hfollow]
  obtain ⟨⟨htravel, hfield⟩, hlink⟩ := conclude_issued (s.unitStep u x a orders)
  rw [List.append_nil] at hfield
  exact ⟨conclude_eq _, ⟨htravel, hfield⟩, hlink⟩

/-! ### The side-shift of a continuation (R29) -/

/-- Some used unit of the continuation is not SET yet, or there is none. -/
theorem unitSet_waits {w : State} (h : w.job.state ≠ .running ∨ w.job.phase ≠ some .holding ∨
    ∃ v, w.job.done.get v = false ∧ (w.unit v).state ≠ .set) : unitSet w = w := by
  refine if_neg fun ⟨hs, hp, _, hset⟩ => ?_
  rcases h with h | h | ⟨v, hd, hst⟩
  · exact h hs
  · exact h hp
  · have hv := List.all_eq_true.1 hset v (by cases v <;> simp [UnitId.all])
    simp [hd, hst] at hv

/-- The continuation is whole: every used unit is SET, and the rest are done and PARKED. -/
def WholeContinuation (w : State) : Prop :=
  w.job.state = .running ∧ w.job.phase = some .holding ∧ (∃ y ∈ w.queue.slots, y.state = .active) ∧
  ∀ v, (w.job.done.get v = true ∧ (w.unit v).state = .parked) ∨
    ((w.unit v).state = .set ∧ (w.unit v).result.used = true ∧ (w.unit v).workOrdered = false)

theorem WholeContinuation.toldToWork {w : State} (h : WholeContinuation w) (v : UnitId) :
    (w.unit v).toldToWork = (if (w.unit v).state = .set then { (w.unit v).asks .lowering with workOrdered := true } else w.unit v) ∧
    (w.unit v).asksToLower = ((w.unit v).state == .set) := by
  obtain ⟨-, -, -, hunits⟩ := h
  rcases hunits v with ⟨-, hst⟩ | ⟨hst, hused, hordered⟩
  · simp [TUnit.toldToWork, TUnit.asksToLower, hst]
  · simp [TUnit.toldToWork, TUnit.asksToLower, TUnit.asks, hst, hused, hordered]

/-- The last unit to be SET sends the whole continuation to work. -/
theorem unitSet_whole {w : State} (h : WholeContinuation w) : unitSet w = { w with
    units := w.units.map TUnit.toldToWork
    job := { w.job with phase := some .working }
    arb := (UnitId.all.filter fun v => (w.unit v).state == .set).foldl (fun a v => a.request (.unit v)) w.arb } := by
  have hasks : (fun v => (w.unit v).asksToLower) = fun v => (w.unit v).state == .set := funext fun v => (h.toldToWork v).2
  obtain ⟨hs, hp, ⟨y, hy, hact⟩, hunits⟩ := h
  have hset : w.unitsSet = true := List.all_eq_true.2 fun v _ => by
    rcases hunits v with ⟨hd, -⟩ | ⟨hst, -⟩
    · simp [hd]
    · simp [hst]
  have hhas : w.queue.has .active = true := List.any_eq_true.2 ⟨y, hy, by simp [hact]⟩
  rw [unitSet, if_pos ⟨hs, hp, hhas, hset⟩, workUnits_eq]
  show { setPhase (some .working) w with
    units := w.units.map TUnit.toldToWork
    arb := (UnitId.all.filter fun v => (w.unit v).asksToLower).foldl (fun a v => a.request (.unit v)) w.arb } = _
  rw [hasks]
  rfl

/-- The event of that last unit: the continuation goes down together, and nothing else moves. -/
theorem unitEvent_unitSet_whole {w t : State} (h : WholeContinuation w) (hnr : NoRetreat w) (ht : t = unitEvent (unitSet w)) :
    t = { w with
      units := t.units, job := { w.job with phase := some .working }, travel := t.travel, field := t.field, link := t.link
      arb := (UnitId.all.filter fun v => (w.unit v).state == .set).foldl (fun a v => a.request (.unit v)) w.arb } ∧
    (∀ v, t.unit v = if (w.unit v).state = .set then { (w.unit v).asks .lowering with workOrdered := true } else w.unit v) ∧
    Issued w t [] := by
  have hworks : NoRetreat (unitSet w) := by
    rw [unitSet_whole h]
    exact ⟨(foldl_request_retreatMode ..).trans hnr.1, hnr.2⟩
  obtain ⟨⟨hstate, hdriven⟩, hlink⟩ := unitEvent_ended hworks
  rw [← ht, unitSet_whole h] at hstate hdriven hlink
  have hunits : t.units = w.units.map TUnit.toldToWork := congrArg State.units hstate
  refine ⟨?_, fun v => ?_, hdriven, hlink⟩
  · rw [hunits]
    exact hstate
  · rw [State.unit, hunits, Quad.get_map]
    exact (h.toldToWork v).1

/-! ### Park height (R31, R132, R136) -/

/-- From RETREATING the retreat is followed up. -/
theorem unitEvent_parked_retreat {x : TUnit} {a : Arbiter} {t : State} (ht : t = unitEvent (s.unitStep u x a [])) :
    t = { s with
      units := s.units.set u x, llu := t.llu, arb := t.arb, travel := t.travel, field := t.field, link := t.link } ∧
    RetreatFollowed s.llu a t ∧ Issued s t [] := by
  subst ht
  refine ⟨?_, ?_, ?_⟩
  · refine (conclude_eq _).trans ?_
    simp only [unitEvent, conclude_keeps, followRetreat_keeps]
    rfl
  · exact (followRetreat_followed (s.unitStep u x a [])).congr (by simp [unitEvent]) (by simp [unitEvent]) (by simp [unitEvent])
      (by simp [unitEvent])
  · exact (conclude_issued (followRetreat (s.unitStep u x a []))).congr (by simp [State.unitStep]) (by simp [State.unitStep])
      (by simp [State.unitStep])

/-- The work does not end while another unit is at work, or the LLU is not at demand. -/
theorem testEndOfWork_goesOn {w : State} (h : w.workEnded = false) : testEndOfWork w = w := by
  simp [testEndOfWork, workRounds, endOfWork, h]

theorem parkDone_raising (hst : (s.unit u).state = .raising) (hs : s.job.state = .running ∨ s.job.state = .paused)
    (hw : (∃ v, v ≠ u ∧ s.job.done.get v = false) ∨ (s.llu.state ≠ .atDemand ∧ s.llu.state ≠ .holding)) :
    parkDone u s = (s.unitStep u { (s.unit u).ended with state := .parked, retreat := false } (s.arb.release (.unit u)) []).setJob
      { s.job with done := s.job.done.set u true } := by
  have hgoes : ∀ w : State, w.job.done = s.job.done.set u true → w.llu = s.llu → w.workEnded = false := fun w hd hl => by
    refine Bool.eq_false_iff.2 fun hended => ?_
    simp only [State.workEnded, State.gateOpen, Llu.atDemandOrHolding, Bool.and_eq_true, Bool.or_eq_true, beq_iff_eq, hd, hl] at hended
    obtain ⟨⟨-, hdone⟩, hgate⟩ := hended
    rcases hw with ⟨v, hv, hnot⟩ | ⟨ha, hh⟩
    · have hv' := (Quad.all_iff _ _).1 hdone v
      rw [Quad.get_set_of_ne _ _ hv, hnot] at hv'
      cases hv'
    · exact hgate.elim ha hh
  rw [parkDone, parkUnit_step, if_pos hst, unitDone]
  rcases hs with hs | hs <;> simp only [State.unitStep, hs] <;> exact testEndOfWork_goesOn (hgoes _ rfl rfl)

/-- From RAISING the unit counts as done, outside a retreat. -/
theorem unitEvent_parked_done {x : TUnit} {a : Arbiter} {j : Job} {t : State} (hnr : NoRetreat (s.unitStep u x a []))
    (ht : t = unitEvent ((s.unitStep u x a []).setJob j)) :
    t = { s with units := s.units.set u x, job := j, arb := a, travel := t.travel, field := t.field, link := t.link } ∧
    Issued s t [] := by
  obtain ⟨⟨hstate, hdriven⟩, hlink⟩ := unitEvent_ended (w := (s.unitStep u x a []).setJob j) hnr
  rw [← ht] at hstate hdriven hlink
  exact ⟨hstate, Issued.congr ⟨hdriven, hlink⟩ rfl (by simp [State.setJob, State.unitStep]) rfl⟩

end

end Sys2Proof.Machine

section
open Sys2Proof Sys2Proof.Machine

/-- Settles O48: each completion is one change of its unit, and outside a retreat its event does no more; the rest of a whole
continuation goes down with it, and the retreat is followed up from RETREATING. -/
theorem completionsMoveTheUnitOn : Obligations.CompletionsMoveTheUnitOn := by
  unfold Obligations.CompletionsMoveTheUnitOn
  rintro u n s x rfl hx
  have hgiven {g : UnitSettings} (hg : (s.unit u).settings = some g) : (s.unit u).given = g := by rw [TUnit.given, hg]; rfl
  refine ⟨fun mm mask hst ho hnr => ?_, fun mm hst ho hnr => ?_, fun hst ho => ?_, fun hst ho hnr => ?_, fun hst ho => ?_,
    fun hst ho hs hnr hw => ?_, fun h => ?_, fun h => ?_, fun h => ?_, fun h => ?_, fun h => ?_⟩
  · have hexec : exec (.shiftReached u n) s = .next (unitEvent (shiftDone u s)) := completion_taken hst ho rfl
    refine ⟨fun hw => ?_, fun hw hwait => ?_, fun base hw hused hs hp hact hothers hbase => ?_⟩
    · rw [shiftDone_lowers hw] at hexec
      exact ⟨_, hexec, unitEvent_unitMoved (hnr.exchanged ..)⟩
    · rw [shiftDone_sets hw, unitSet_waits] at hexec
      · exact ⟨_, hexec, unitEvent_unitMoved (hnr.released ..)⟩
      · refine hwait.imp id (Or.imp id fun ⟨v, hv, hd, hset⟩ => ⟨v, hd, ?_⟩)
        rwa [State.unit, State.unitStep, Quad.get_set_of_ne _ _ hv]
    · have hwhole : WholeContinuation (s.unitStep u { (s.unit u).ended with state := .set } (s.arb.release (.unit u)) []) := by
        refine ⟨hs, hp, hact, fun v => ?_⟩
        by_cases hv : v = u
        · rw [hv, (unitStep_reads ..).1]
          exact .inr ⟨rfl, hused, hw⟩
        · have hunit : (s.unitStep u { (s.unit u).ended with state := .set } (s.arb.release (.unit u)) []).unit v = s.unit v :=
            Quad.get_set_of_ne _ _ hv
          rw [hunit]
          exact hothers v hv
      rw [shiftDone_sets hw] at hexec
      obtain ⟨hstate, hunits, hissued⟩ := unitEvent_unitSet_whole hwhole (hnr.released ..) rfl
      subst hbase
      exact ⟨_, hexec, hstate, hunits, hissued.congr rfl (by simp [State.unitStep]) rfl⟩
  · have hexec : exec (.depthReached u n) s = .next (unitEvent (depthDone u s)) := completion_taken hst ho rfl
    refine ⟨fun ha hh => ?_, fun g hl hg => ?_⟩
    · rw [depthDone_waits (by simp [State.gateOpen, Llu.atDemandOrHolding, ha, hh])] at hexec
      exact ⟨_, hexec, unitEvent_unitMoved (hnr.released ..)⟩
    · rw [depthDone_squeezes hx.number_le (by simpa [State.gateOpen, Llu.atDemandOrHolding] using hl), hgiven hg] at hexec
      exact ⟨_, hexec, unitEvent_unitMoved (hnr.released ..)⟩
  · have hexec : exec (.tinesOpen u n) s = .next (unitEvent (tinesDone u s)) := completion_taken hst ho rfl
    refine ⟨fun hr => ?_, fun g hr hg hnr => ⟨fun hi => ?_, fun hi => ?_⟩⟩
    · rw [tinesDone_retreats hr] at hexec
      exact ⟨_, hexec, unitEvent_unitMoved_retreating rfl⟩
    · rw [tinesDone_next hr (by rwa [hgiven hg])] at hexec
      exact ⟨_, hexec, unitEvent_unitMoved (hnr.requested ..)⟩
    · rw [tinesDone_rises hr (by rwa [hgiven hg])] at hexec
      exact ⟨_, hexec, unitEvent_unitMoved (hnr.requested ..)⟩
  · have hexec : exec (.atMid u n) s = .next (unitEvent (enterMotion u .lowering (endMotion u s))) := completion_taken hst ho rfl
    rw [midDone_step] at hexec
    exact ⟨_, hexec, unitEvent_unitMoved (hnr.exchanged ..)⟩
  · have hexec : exec (.atPark u n) s = .next (unitEvent (parkDone u s)) := completion_taken (by rw [hst]; rfl) ho rfl
    rw [parkDone, if_neg (by simp [hst]), parkUnit_step] at hexec
    exact ⟨_, hexec, unitEvent_parked_retreat rfl⟩
  · have hexec : exec (.atPark u n) s = .next (unitEvent (parkDone u s)) := completion_taken (by rw [hst]; rfl) ho rfl
    rw [parkDone_raising hst hs hw] at hexec
    exact ⟨_, hexec, unitEvent_parked_done (hnr.released ..) rfl⟩
  · exact completion_ignored fun o hp => by
      obtain ⟨mm, mask, rfl⟩ := UnitOrder.isShift_iff.1 hp
      exact h mm mask
  · exact completion_ignored fun o hp => by
      obtain ⟨mm, rfl⟩ := UnitOrder.isLower_iff.1 hp
      exact h mm
  all_goals exact completion_ignored fun o hp => by rwa [eq_of_beq hp]

end

namespace Sys2Proof.Machine

/-! ## The completions and waiting timers of the LLU (R34, R147, R154 to R156, R159) -/

/-- A completion that the LLU awaits in its state is taken (R145). -/
theorem lluCompletion_taken {s t : State} {st : Prop} [Decidable st] {p : LluOrder → Bool} {n : Nat} {o : LluOrder} (hst : st)
    (ho : s.llu.order = some (o, n)) (hp : p o = true) :
    Host.Outcome.next (φ := Fault) (ρ := Refusal) (if st ∧ s.llu.awaits p n then t else s) = .next t :=
  congrArg Host.Outcome.next (if_pos ⟨hst, by simp [Llu.awaits, ho, hp]⟩)

/-- Outside a retreat an event that changes the LLU, the arbiter and the orders changes nothing else. -/
theorem unitEvent_lluMoved {s : State} {x : Llu} {a : Arbiter} {orders : List FieldOrder} (h : NoRetreat (s.lluStep x a orders)) :
    LluMoved x a orders s (unitEvent (s.lluStep x a orders)) := by
  obtain ⟨⟨hstate, htravel, hfield⟩, hlink⟩ := unitEvent_ended h
  rw [List.append_nil] at hfield
  exact ⟨hstate, ⟨htravel, hfield⟩, hlink⟩

theorem endLluOrder_step (s : State) : endLluOrder s = s.lluStep s.llu.ended s.arb [] := changeLlu_step _ s

theorem orderLlu_step {s : State} (h : s.llu.orderNo ≤ 255) (o : LluOrder) (ms : Nat) :
    orderLlu o ms s = s.lluStep (s.llu.ordered o ms) s.arb [.llu o (numberAfter s.llu.orderNo)] := by
  simp [orderLlu, nextNumber_eq h, changeLlu_step, send, State.setField, State.lluStep, Llu.ordered]

/-! ### The clamps are closed (R147) -/

theorem baselineLost_iff (s : State) : s.baselineLost = true ↔
    (∃ ch ∈ [Channel.line, levelChannel s.params.grade, .cant], (s.meas.channels.get ch).state = .lost) ∨
    (s.llu.hookEngaged = true ∧ s.meas.channels.hook.state = .lost) := by
  unfold State.baselineLost liftChannels
  cases s.llu.hookEngaged <;> simp [ChannelRec.isLost, Channels.get, or_assoc]

/-- LIFT_LINE carries the demands, and the hook lift with the hook they demand (R62, R147). -/
theorem Llu.liftOrder_eq {x : Llu} {d : Demands} (hd : x.demands = some d) (hh : x.hookEngaged = d.hook.isSome) :
    x.liftOrder = .liftLine d.lining d.left d.right (d.hook.map (·.1)) := by
  have hdem : x.demanded = d := by rw [Llu.demanded, hd]; rfl
  rw [Llu.liftOrder, hdem, hh]
  cases d.hook <;> rfl

/-- The lift begins: the baseline is recorded, LIFT_LINE ordered, and the grant kept (R147). -/
theorem startLift_step {s : State} (hno : s.llu.orderNo ≤ 255) : startLift s =
    s.lluStep
      { s.llu.ordered s.llu.liftOrder s.params.liftTime with
        state := .lifting
        baseline := some (baselineOf s.meas.channels s.params.grade s.llu.hookEngaged)
        achieved := some (achievedZero s.llu.hookEngaged) }
      s.arb [.llu s.llu.liftOrder (numberAfter s.llu.orderNo)] := by
  rw [startLift, orderLlu_step]
  · simp only [changeLlu_step, lluStep_lluStep]
    rfl
  · exact hno

/-- With every channel there the lift begins (R147). -/
theorem clampDone_lifts {s : State} (hb : ¬ s.baselineLost = true) : clampDone s = startLift (endLluOrder s) := if_neg hb

/-- A LOST channel stops the lift before it begins (R147). -/
theorem clampDone_lost {s : State} (hb : s.baselineLost = true) : clampDone s =
    raiseFault .sensorLost .llu { s with llu := s.llu.ended, arb := s.arb.release .llu } := if_pos hb

/-- Outside RELEASING an LLU whose order has ended stands as the table gives (R143). -/
theorem Llu.Shaped.ended {x : Llu} (h : x.Shaped) (hw : x.waiting = false) (hst : x.state ≠ .releasing) : x.ended.Shaped := by
  obtain ⟨-, hno, -, -, hr, hj, hs⟩ := h
  exact Llu.shaped_quiet hno hw rfl rfl hst hr hj hs

/-! ### The clamps are open (R155, R159) -/

/-- The LLU with its clamps open and its order at an end. -/
def Llu.unclamped (x : Llu) : Llu := { x.ended with clampsClosed := false, hookEngaged := false }

theorem unclampDone_settles {s : State} (hr : s.llu.retreat = false) : unclampDone s =
    s.lluStep { s.llu.unclamped with state := .settling, settle := some s.params.settleTime } (s.arb.release .llu) [] := by
  simp [unclampDone, hr, endLluOrder_step, releaseLluGrant_step, changeLlu_step, Llu.unclamped]

theorem unclampDone_opens {s : State} (hr : s.llu.retreat = true) : unclampDone s =
    s.lluStep { s.llu.unclamped with state := .isOpen, retreat := false } (s.arb.release .llu) [] := by
  simp [unclampDone, hr, endLluOrder_step, releaseLluGrant_step, changeLlu_step, Llu.unclamped, openUnderRetreat]

/-- An event that leaves the LLU with no release to wait for changes the LLU and the arbiter alone, whose retreat mode stands until
the retreat is over (R38). -/
theorem unitEvent_lluMoved_retreat {s t : State} {x : Llu} {a : Arbiter} (hx : ¬ x.WaitsToRelease)
    (ht : t = unitEvent (s.lluStep x a [])) :
    LluMoved x { a with retreatMode := t.arb.retreatMode } [] s t ∧
    (t.arb.retreatMode = true ↔ a.retreatMode = true ∧ ¬ RetreatOver t) := by
  have hfollowed : RetreatFollowed x a t := by
    subst ht
    exact (followRetreat_followed (s.lluStep x a [])).congr (by simp [unitEvent]) (by simp [unitEvent]) (by simp [unitEvent])
      (by simp [unitEvent])
  obtain ⟨⟨-, hstays⟩, hmode, harb⟩ := hfollowed
  have hllu : t.llu = x := hstays fun h => hx h.1
  rw [if_pos hllu] at harb
  refine ⟨⟨?_, ?_⟩, hmode⟩
  · rw [← harb, ← hllu]
    subst ht
    refine (conclude_eq _).trans ?_
    simp only [unitEvent, conclude_keeps, followRetreat_keeps]
    rfl
  · subst ht
    exact (conclude_issued (followRetreat (s.lluStep x a []))).congr (by simp [State.lluStep]) (by simp [State.lluStep])
      (by simp [State.lluStep])

/-! ### The join hold is given up (R34, R154) -/

/-- The hold has been given up with no entry active: the LLU waits for its release, and a HELD record is CLOSING (R34, R64). -/
def State.holdGivenUp (s : State) : State :=
  { s with
    job := { s.job with phase := some .releasing }, engine := s.engine.expire, llu := s.llu.sentReleasing
    arb := s.arb.request .llu }

theorem giveUpHold_eq {s : State} (h : s.llu.state = .holding) : giveUpHold s = s.holdGivenUp := by
  have hl : lluRelease (setPhase (some .releasing) (s.setEngine s.engine.expire)) =
      startRelease (setPhase (some .releasing) (s.setEngine s.engine.expire)) :=
    if_pos (by simp [Llu.atDemandOrHolding, h])
  rw [giveUpHold, hl, startRelease_step]
  simp [State.lluStep, setPhase, State.setJob, State.setEngine, State.holdGivenUp]

theorem NoRetreat.holdGivenUp {s : State} (h : NoRetreat s) : NoRetreat s.holdGivenUp :=
  ⟨(Arbiter.request_keeps .llu s.arb).1.trans h.1, h.2⟩

end Sys2Proof.Machine

section
open Sys2Proof Sys2Proof.Machine

/-- Settles O53: each event is one change of the LLU, from which the fault takes its way, or the retreat is followed up, where the
statement says so. -/
theorem lluEventsGoOn : Obligations.LluEventsGoOn := by
  unfold Obligations.LluEventsGoOn
  refine fun s => ⟨?_, ?_, fun hst hjoin hnr => ?_, fun hst hset => ?_⟩
  · rintro n side d o level hl hst ho hd hh hr rfl
    have hexec : exec (.clamped n) s = .next (unitEvent (clampDone s)) := lluCompletion_taken hst ho rfl
    refine ⟨fun hnr hgood hhook heq => ?_, fun hsound hlost => ?_⟩
    · have hb : ¬ s.baselineLost = true := by
        rw [baselineLost_iff]
        rintro (⟨ch, hch, hlost⟩ | ⟨he, hlost⟩)
        · exact hgood ch hch hlost
        · exact hhook he hlost
      have horder : (endLluOrder s).llu.liftOrder = o := (Llu.liftOrder_eq (x := s.llu.ended) hd hh).trans heq.symm
      rw [clampDone_lifts hb, startLift_step (s := endLluOrder s) hl.number_le, horder, endLluOrder_step, lluStep_lluStep] at hexec
      exact ⟨_, hexec, unitEvent_lluMoved hnr⟩
    · obtain ⟨hunits, -⟩ := hsound
      rw [clampDone_lost ((baselineLost_iff s).2 hlost)] at hexec
      exact ⟨_, hexec, unitEvent_faulted hunits (hl.ended (hl.ordered ho).1 (by simp [hst]))⟩
  · intro n hl hst ho
    have hexec : exec (.unclamped n) s = .next (unitEvent (unclampDone s)) := lluCompletion_taken hst ho rfl
    refine ⟨fun hnr => ?_, fun hr => ?_⟩
    · rw [unclampDone_settles hnr.2] at hexec
      exact ⟨_, hexec, unitEvent_lluMoved ⟨(Arbiter.release_keeps _ _).1.trans hnr.1, hnr.2⟩⟩
    · rw [unclampDone_opens hr] at hexec
      obtain ⟨hmoved, hmode⟩ := unitEvent_lluMoved_retreat (s := s)
        (x := { s.llu.unclamped with state := .isOpen, retreat := false }) (fun ⟨_, hopen, _⟩ => hopen rfl) rfl
      rw [(Arbiter.release_keeps _ _).1] at hmode
      exact ⟨_, hexec, hmoved, hmode⟩
  · have hexec : exec .joinHoldExpiry s = .next (unitEvent (giveUpHold s)) := congrArg Host.Outcome.next (if_pos ⟨hst, hjoin⟩)
    rw [giveUpHold_eq hst] at hexec
    obtain ⟨⟨hstate, hdriven⟩, hlink⟩ := unitEvent_ended hnr.holdGivenUp
    have hengine : (unitEvent s.holdGivenUp).engine = s.engine.expire := by simp [State.holdGivenUp]
    refine ⟨_, hexec, ?_, fun c hc => by rw [hengine, hc]; rfl, hdriven, hlink⟩
    rw [hengine]
    exact hstate
  · exact congrArg Host.Outcome.next (if_pos ⟨hst, hset⟩)

end

namespace Sys2Proof.Machine

/-! ## The end of the lifting (R148 to R152) -/

/-! ### The gate opens to the units (R129, R152) -/

theorem TUnit.given_eq {x : TUnit} {g : UnitSettings} (h : x.settings = some g) : x.given = g := by rw [TUnit.given, h]; rfl

/-- The opening of the gate at one unit: an INSERTED one, which works for an entry, squeezes with its pressure (R129). -/
theorem gateOpensFor_step {u : UnitId} {s : State} (hno : (s.unit u).orderNo ≤ 255)
    (hset : (s.unit u).state = .inserted → (s.unit u).settings ≠ none) :
    gateOpensFor u s = s.unitStep u ((s.unit u).gated s.params) s.arb ((s.unit u).gateOrders u) := by
  by_cases hst : (s.unit u).state = .inserted
  · obtain ⟨g, hg⟩ := Option.ne_none_iff_exists'.1 (hset hst)
    have hgated : (s.unit u).gated s.params =
        { (s.unit u).ordered (.squeeze g.pressure) s.params.squeezeTime with state := .squeezing, tinesClosed := true } := by
      simp only [TUnit.gated, hst, hg]
    have horders : (s.unit u).gateOrders u = [.unit u (.squeeze g.pressure) (numberAfter (s.unit u).orderNo)] := by
      simp only [TUnit.gateOrders, hst, hg]
    rw [gateOpensFor, if_pos hst, startSqueeze_step hno, TUnit.given_eq hg, hgated, horders]
  · have hgated : (s.unit u).gated s.params = s.unit u := by
      unfold TUnit.gated
      split
      · next h _ => exact absurd h hst
      · rfl
    have horders : (s.unit u).gateOrders u = [] := by
      unfold TUnit.gateOrders
      split
      · next h _ => exact absurd h hst
      · rfl
    rw [gateOpensFor, if_neg hst, hgated, horders, unitStep_self]

/-- The gate opens to the four units, each on its own; the arbiter has no part in it (R152). -/
theorem openGate_eq {s : State} (hu : ∀ u, (s.unit u).Shaped) (hset : InsertedHaveSettings s) :
    openGate s = s.unitsStep (fun _ x => x.gated s.params) (fun _ _ a => a) TUnit.gateOrders := by
  rw [openGate, gateOpensFor_step (u := .lo) (hu .lo).number_le (hset .lo), gateOpensFor_step (u := .li),
    gateOpensFor_step (u := .ri), gateOpensFor_step (u := .ro)]
  · simp [State.unitStep, State.unitsStep, State.unit, UnitId.all, Quad.set, Quad.get]
  exacts [(hu .ro).number_le, hset .ro, (hu .ri).number_le, hset .ri, (hu .li).number_le, hset .li]

/-- The gate finds no unit INSERTED when all are PARKED. -/
theorem openGate_parked {s : State} (h : ∀ u, (s.unit u).state = .parked) : openGate s = s := by
  have hstays (u : UnitId) : gateOpensFor u s = s := if_neg (by rw [h u]; decide)
  rw [openGate, hstays, hstays, hstays, hstays]

/-! ### The LLU stands at demand (R149, R31) -/

/-- The LLU, left as `x` by the lifting, stands at demand with the channels at `meas`; its grant is back, and the gate opens next
(R149, steps 2 and 3). -/
def State.atDemand (s : State) (x : Llu) (meas : Measurement) : State :=
  { s with llu := { x.ended with state := .atDemand, reached := true }, arb := s.arb.release .llu, meas := meas }

theorem reachDemand_eq (s : State) (x : Llu) (meas : Measurement) :
    reachDemand { s with llu := x, meas := meas } = openGate (s.atDemand x meas) := rfl

theorem NoRetreat.atDemand {s : State} (h : NoRetreat s) {x : Llu} (hx : x.retreat = false) (meas : Measurement) :
    NoRetreat (s.atDemand x meas) := ⟨(Arbiter.release_keeps .llu s.arb).1.trans h.1, hx⟩

/-- With a unit still at work the gate opens, and no work ends (R149, R152). -/
theorem unitEvent_reachedDemand {s : State} {x : Llu} {meas : Measurement} (hnr : NoRetreat s) (hx : x.retreat = false)
    (hset : InsertedHaveSettings s) (hu : ∀ u, (s.unit u).Shaped) (hdone : ∃ u, s.job.done.get u = false) :
    (unitEvent (testEndOfWork (openGate (s.atDemand x meas)))).meas = meas ∧
    ReachedDemand x s (unitEvent (testEndOfWork (openGate (s.atDemand x meas)))) := by
  obtain ⟨w, hw⟩ : ∃ w, w = (s.atDemand x meas).unitsStep (fun _ y => y.gated s.params) (fun _ _ a => a) TUnit.gateOrders :=
    ⟨_, rfl⟩
  have hgate : openGate (s.atDemand x meas) = w := hw ▸ openGate_eq (s := s.atDemand x meas) hu hset
  have hgoes : testEndOfWork w = w := by
    obtain ⟨u, hd⟩ := hdone
    refine testEndOfWork_goesOn (Bool.eq_false_iff.2 fun hended => ?_)
    simp only [State.workEnded, Bool.and_eq_true] at hended
    obtain ⟨⟨-, hall⟩, -⟩ := hended
    have hjob : w.job = s.job := hw ▸ rfl
    rw [hjob] at hall
    have hd' := (Quad.all_iff _ _).1 hall u
    rw [hd] at hd'
    cases hd'
  rw [hgate, hgoes]
  obtain ⟨⟨hstate, htravel, hfield⟩, hlink⟩ := unitEvent_ended (w := w) (hw ▸ hnr.atDemand hx meas)
  have hunits : (unitEvent w).units = w.units := by simp
  have hmeas : (unitEvent w).meas = w.meas := by simp
  replace hmeas : (unitEvent w).meas = meas := hmeas.trans (hw ▸ rfl)
  rw [List.append_nil] at hfield
  refine ⟨hmeas, ?_, fun u => ?_, ⟨?_, ?_⟩, ?_⟩
  · rw [hunits, hmeas]
    refine hstate.trans ?_
    rw [hw]
    rfl
  · rw [State.unit, hunits, hw]
    exact unitsStep_unit ..
  · exact htravel.trans (hw ▸ rfl)
  · exact hfield.trans (hw ▸ rfl)
  · exact hlink.trans (hw ▸ rfl)

/-- With every unit done and PARKED the work of the active entry ends (R31). -/
theorem unitEvent_liftEnds {s : State} {x : Llu} {meas : Measurement} (hnr : NoRetreat s) (hx : x.retreat = false)
    (hset : InsertedHaveSettings s) (hu : ∀ u, (s.unit u).Shaped) :
    LiftEnds x meas s (unitEvent (testEndOfWork (openGate (s.atDemand x meas)))) := by
  refine ⟨unitEvent_reachedDemand hnr hx hset hu, fun k y goal hdone hparked hs hp hk hy hg => ?_⟩
  have hended : WorkEnding (s.atDemand x meas) k y goal :=
    { ended := by
        have hall : (s.job.done.all fun d => d) = true := (Quad.all_iff _ _).2 hdone
        simp [State.workEnded, State.atDemand, hs, hp, hall, State.gateOpen, Llu.atDemandOrHolding]
      only := hk
      active := hy
      target := hg
      noRetreat := hnr.atDemand hx meas }
  have hgate : openGate (s.atDemand x meas) = s.atDemand x meas := openGate_parked hparked
  rw [hgate]
  exact hended.workEnds (by decide)

/-! ### The sample's values and their test (R148, R149) -/

theorem arrived_iff (tolerance : Nat) (a : Achieved) (d : Demands) : arrived tolerance a d = true ↔ a.Meets d tolerance := by
  unfold arrived Achieved.Meets onAxis
  cases a.hook with
  | none => simp [and_assoc]
  | some h =>
    cases d.hook with
    | none => simp [and_assoc]
    | some demand => simp [and_assoc, Prod.ext_iff]

/-- A channel that the sample has made VALID. -/
theorem takeSample_good {cs : Channels ChannelRec} {sample : Channels Reading} {ch : Channel}
    (h : (sample.get ch).valid = true ∧ (channelRange ch).1 ≤ (sample.get ch).value ∧ (sample.get ch).value ≤ (channelRange ch).2) :
    (takeSample cs sample).get ch = ⟨.valid, 0, some (sample.get ch).value⟩ := by
  rw [takeSample_get, ChannelRec.take_good ((goodReading_iff ch _).2 h)]

/-- The channels that the LLU may lift by are VALID with the values of the sample. -/
def LiftChannelsRead (cs : Channels ChannelRec) (sample : Channels Reading) (grade : Side) : Prop :=
  ∀ ch ∈ [Channel.line, levelChannel grade, .cant, .hook], cs.get ch = ⟨.valid, 0, some (sample.get ch).value⟩

theorem liftChannels_subset (grade : Side) (hook : Bool) :
    liftChannels grade hook ⊆ [Channel.line, levelChannel grade, .cant, .hook] := by
  cases hook <;> simp [liftChannels]

section
variable {s : State} {sample : Channels Reading}

theorem LiftChannelsRead.lostChannel (h : LiftChannelsRead s.meas.channels sample s.params.grade) (before : Channels ChannelRec) :
    s.lostChannel before = false := by
  refine List.any_eq_false.2 fun ch hch => ?_
  simp [newlyLost, ChannelRec.isLost, h ch (liftChannels_subset _ _ hch)]

theorem LiftChannelsRead.baselineLost (h : LiftChannelsRead s.meas.channels sample s.params.grade) : s.baselineLost = false := by
  refine List.any_eq_false.2 fun ch hch => ?_
  simp [ChannelRec.isLost, h ch (liftChannels_subset _ _ hch)]

/-- `a` holds the values of R148 that the sample gives against the baseline `b`, with the hook axis while the hook is engaged. -/
structure Achieved.FromSample (b : Baseline) (sample : Channels Reading) (grade : Side) (hooked : Bool) (a : Achieved) : Prop where
  line : a.line = sample.line.value - b.m0
  left : grade = .left → a.left = b.h0 - (sample.get (levelChannel grade)).value ∧
    a.right = b.h0 - (sample.get (levelChannel grade)).value + (sample.cant.value - b.c0)
  right : grade = .right → a.right = b.h0 - (sample.get (levelChannel grade)).value ∧
    a.left = b.h0 - (sample.get (levelChannel grade)).value - (sample.cant.value - b.c0)
  hook : a.hook = if hooked then some (sample.hook.value - b.hook0.getD 0) else none

/-- The values that the LLU forms from channels just read are those of the sample (R148). -/
theorem LiftChannelsRead.achievedOf_eq {cs : Channels ChannelRec} {grade : Side} (h : LiftChannelsRead cs sample grade) {b : Baseline}
    {hooked : Bool} {a : Achieved} (ha : a.FromSample b sample grade hooked) : achievedOf b cs grade hooked = a := by
  have hcurrent {ch : Channel} (hch : ch ∈ [Channel.line, levelChannel grade, .cant, .hook]) :
      (cs.get ch).current = (sample.get ch).value := by rw [h ch hch]; rfl
  have hline : cs.line.current = sample.line.value := hcurrent (ch := .line) (by simp)
  have hcant : cs.cant.current = sample.cant.value := hcurrent (ch := .cant) (by simp)
  have hhook : cs.hook.current = sample.hook.value := hcurrent (ch := .hook) (by simp)
  have hlevel := hcurrent (ch := levelChannel grade) (by simp)
  simp only [achievedOf, hline, hcant, hhook, hlevel, ← ha.line, ← ha.hook]
  cases grade with
  | left =>
    obtain ⟨hl, hr⟩ := ha.left rfl
    dsimp only
    rw [← hr, ← hl]
  | right =>
    obtain ⟨hr, hl⟩ := ha.right rfl
    dsimp only
    rw [← hl, ← hr]

/-- With its channels just read the LLU forms the values of the sample (R148). -/
theorem LiftChannelsRead.achievedNow (h : LiftChannelsRead s.meas.channels sample s.params.grade) {b : Baseline} {a : Achieved}
    (hb : s.llu.baseline = some b) (ha : a.FromSample b sample s.params.grade s.llu.hookEngaged) : s.achievedNow = some a := by
  rw [State.achievedNow, h.baselineLost, hb, Option.map_some, h.achievedOf_eq ha]
  rfl

end

/-- A sample in LIFTING that finds no channel newly LOST, outside a retreat (R148, R149). -/
theorem lluSample_lifts {s : State} {before : Channels ChannelRec} (hst : s.llu.state = .lifting) (hr : s.llu.retreat = false)
    (h : s.lostChannel before = false) : lluSample before s = liftSample s := by
  simp [lluSample, hst, hr, h]

theorem formAchieved_of_some {s : State} {a : Achieved} (h : s.achievedNow = some a) :
    formAchieved s = { s with llu := { s.llu with achieved := some a } } := by
  rw [formAchieved, h]
  rfl

theorem hasArrived_iff {s : State} {a : Achieved} {d : Demands} (h : s.achievedNow = some a) (hd : s.llu.demands = some d) :
    s.hasArrived = true ↔ a.Meets d s.params.liftTolerance := by
  rw [State.hasArrived, h, Option.any_some, Llu.demanded, hd]
  exact arrived_iff ..

end Sys2Proof.Machine

section
open Sys2Proof Sys2Proof.Machine

/-- Settles O54: whichever way the lifting ends, the LLU stands at demand and the gate opens from there; a sample short of the demand
forms its values alone. -/
theorem liftingEndsAtDemand : Obligations.LiftingEndsAtDemand := by
  unfold Obligations.LiftingEndsAtDemand
  intro s hst hnr hset hu
  refine ⟨fun n a b c h ho => ?_, fun ht => ?_, fun sample d b rail cantChange a htest hd hb he hgood hrail hcant hline hleft hright
    hnone hsome hhooks => ?_⟩
  · have hexec : exec (.forceLimit n) s =
        .next (unitEvent (testEndOfWork (openGate (s.atDemand { s.llu with lineForce := true } s.meas)))) :=
      congrArg Host.Outcome.next (if_pos ⟨hst, by simp [Llu.awaits, ho, LluOrder.isLift]⟩)
    exact ⟨_, hexec, unitEvent_liftEnds hnr hnr.2 hset hu⟩
  · have hexec : exec .liftTimerExpiry s =
        .next (unitEvent (testEndOfWork (openGate (s.atDemand { s.llu with liftShort := true } s.meas)))) :=
      congrArg Host.Outcome.next (if_pos (by simp [Llu.timed, hst, ht]))
    exact ⟨_, hexec, unitEvent_liftEnds hnr hnr.2 hset hu⟩
  · obtain ⟨w, hw⟩ : ∃ w, w = updateChannels sample s := ⟨_, rfl⟩
    have hread : LiftChannelsRead w.meas.channels sample w.params.grade := by
      subst hw
      exact fun ch hch => takeSample_good (hgood ch hch)
    have ha : a.FromSample b sample s.params.grade s.llu.hookEngaged := by
      subst hrail hcant
      refine ⟨hline, hleft, hright, ?_⟩
      cases hd' : d.hook with
      | none => simp [he, hd', hnone hd']
      | some demand =>
        obtain ⟨h0, hb0⟩ := Option.isSome_iff_exists.1 (hhooks.symm.trans (by rw [hd']; rfl))
        simp [he, hd', hb0, hsome demand.1 demand.2 h0 hd' hb0]
    have hnow : w.achievedNow = some a := by
      subst hw
      exact hread.achievedNow hb ha
    have hformed : formAchieved w =
        { s with llu := { s.llu with achieved := some a }, meas := ⟨takeSample s.meas.channels sample, some 20⟩ } := by
      rw [formAchieved_of_some hnow, hw]
      rfl
    have hexec : exec (.sampleArrival sample) s = .next (unitEvent (liftSample w)) := by
      show Host.Outcome.next (takeSampleStep sample s) = _
      rw [takeSampleStep_untested htest, ← hw, lluSample_lifts (hw ▸ hst) (hw ▸ hnr.2) (hread.lostChannel _)]
    have harrived : w.hasArrived = true ↔ a.Meets d s.params.liftTolerance := by
      subst hw
      exact hasArrived_iff hnow hd
    refine ⟨_, hexec, fun hmeets => ?_, fun hshort => ?_⟩
    · rw [liftSample, if_pos (harrived.2 hmeets), hformed, reachDemand_eq]
      exact unitEvent_liftEnds hnr hnr.2 hset hu
    · rw [liftSample, if_neg (mt harrived.1 hshort), hformed]
      obtain ⟨⟨hstate, hdriven⟩, hlink⟩ := unitEvent_ended (w := { s with
        llu := { s.llu with achieved := some a }, meas := ⟨takeSample s.meas.channels sample, some 20⟩ }) hnr
      exact ⟨hstate, hdriven, hlink⟩

end

namespace Sys2Proof.Machine

/-! ## The stop mark is the stop line's own (R170)

Requests, releases, withdrawals and the retreat mode leave the arbiter's stop mark as it is, and so do all operations that reach the
arbiter by these alone. -/

@[simp] theorem Arbiter.setSlots_stopMark (n : Nat) (a : Arbiter) : (a.setSlots n).stopMark = a.stopMark := by
  unfold Arbiter.setSlots
  split <;> simp

/-! ### The units and the LLU -/

/-- What a unit's motion sends to the arbiter. -/
@[simp] theorem unitMotion_stopMark (u : UnitId) (s : State) :
    (∀ st, (enterMotion u st s).arb.stopMark = s.arb.stopMark) ∧ (releaseGrant u s).arb.stopMark = s.arb.stopMark ∧
    (leaveMotion u s).arb.stopMark = s.arb.stopMark := by
  refine ⟨fun st => by simp [enterMotion, arbiter], by simp [releaseGrant, arbiter], ?_⟩
  unfold leaveMotion
  split <;> simp [releaseGrant, arbiter]

/-- The orders that reach a unit. -/
@[simp] theorem unitOrders_stopMark (u : UnitId) (s : State) :
    (∀ g, (activateUnit u g s).arb.stopMark = s.arb.stopMark) ∧ (workUnit u s).arb.stopMark = s.arb.stopMark ∧
    (∀ p, (retreatUnit p u s).arb.stopMark = s.arb.stopMark) ∧ (resumeUnit u s).arb.stopMark = s.arb.stopMark ∧
    (restartUnit u s).arb.stopMark = s.arb.stopMark ∧ (stickUnit u s).arb.stopMark = s.arb.stopMark := by
  refine ⟨fun g => ?_, ?_, fun p => ?_, ?_, ?_, by simp [stickUnit]⟩
  · unfold activateUnit
    dsimp only
    split <;> simp
  · unfold workUnit
    dsimp only
    (repeat' split) <;> simp
  · unfold retreatUnit
    dsimp only
    (repeat' split) <;> simp
  · unfold resumeUnit
    dsimp only
    (repeat' split) <;> simp
  · unfold restartUnit
    dsimp only
    split <;> simp

/-- The orders that reach all units. -/
@[simp] theorem allUnits_stopMark (s : State) :
    (∀ g, (activateUnits g s).arb.stopMark = s.arb.stopMark) ∧ (workUnits s).arb.stopMark = s.arb.stopMark ∧
    (∀ p, (retreatUnits p s).arb.stopMark = s.arb.stopMark) ∧ (resumeUnits s).arb.stopMark = s.arb.stopMark ∧
    (restartUnits s).arb.stopMark = s.arb.stopMark := by
  simp [activateUnits, workUnits, retreatUnits, resumeUnits, restartUnits]

/-- What the LLU's motion sends to the arbiter. -/
@[simp] theorem lluMotion_stopMark (s : State) :
    (startRelease s).arb.stopMark = s.arb.stopMark ∧ (releaseLluGrant s).arb.stopMark = s.arb.stopMark ∧
    (leaveLluMotion s).arb.stopMark = s.arb.stopMark := by
  refine ⟨by simp [startRelease, arbiter], by simp [releaseLluGrant, arbiter], ?_⟩
  unfold leaveLluMotion
  split <;> simp [releaseLluGrant, arbiter]

/-- The orders that reach the LLU, and its reaching of the demand. -/
@[simp] theorem lluOrders_stopMark (s : State) :
    (∀ d, (lluWork d s).arb.stopMark = s.arb.stopMark) ∧ (lluRelease s).arb.stopMark = s.arb.stopMark ∧
    (∀ p, (lluRetreatOrder p s).arb.stopMark = s.arb.stopMark) ∧ (lluRetreatRelease s).arb.stopMark = s.arb.stopMark ∧
    (restartLlu s).arb.stopMark = s.arb.stopMark ∧ (reachDemand s).arb.stopMark = s.arb.stopMark := by
  refine ⟨fun d => ?_, ?_, fun p => ?_, ?_, ?_, by simp [reachDemand]⟩
  · unfold lluWork
    split <;> simp [arbiter]
  · unfold lluRelease
    split <;> simp
  · unfold lluRetreatOrder
    (repeat' split) <;> simp
  · unfold lluRetreatRelease
    split <;> simp
  · unfold restartLlu
    dsimp only
    split <;> simp [arbiter]

/-! ### Job Control -/

/-- The end of a retreat and the common retreat. -/
@[simp] theorem retreat_stopMark (s : State) :
    (followRetreat s).arb.stopMark = s.arb.stopMark ∧ (∀ p, (commonRetreat p s).arb.stopMark = s.arb.stopMark) := by
  have hend (t : State) : (endRetreat t).arb.stopMark = t.arb.stopMark := by
    unfold endRetreat
    split <;> simp [arbiter]
  have hfollow (t : State) : (followRetreat t).arb.stopMark = t.arb.stopMark := by simp [followRetreat, hend]
  exact ⟨hfollow s, fun p => by simp [commonRetreat, hfollow, arbiter]⟩

/-- A fault, which halts the job or is recorded beside another. -/
@[simp] theorem raiseFault_stopMark (code : FaultCode) (source : FaultSource) (s : State) :
    (raiseFault code source s).arb.stopMark = s.arb.stopMark := by
  unfold raiseFault
  split <;> simp [halt]

@[simp] theorem activate_stopMark (k : Nat) (s : State) : (activate k s).arb.stopMark = s.arb.stopMark := by
  unfold activate
  dsimp only
  (repeat' split) <;> simp

/-- However many entries without used units follow one another (R31). -/
@[simp] theorem endOfWork_stopMark (n : Nat) (s : State) : (endOfWork n s).arb.stopMark = s.arb.stopMark := by
  induction n generalizing s with
  | zero => rfl
  | succ n ih =>
    unfold endOfWork
    (repeat' split) <;> simp [ih, beginRelease]

/-- The tests of the end of work and of a finish. -/
@[simp] theorem finish_stopMark (s : State) :
    (testEndOfWork s).arb.stopMark = s.arb.stopMark ∧ (∀ k, (activateSlot k s).arb.stopMark = s.arb.stopMark) ∧
    (nextOrStarve s).arb.stopMark = s.arb.stopMark ∧ (pauseOrNext s).arb.stopMark = s.arb.stopMark ∧
    (∀ b e, (finishTests b e s).arb.stopMark = s.arb.stopMark) := by
  have hnext : (nextOrStarve s).arb.stopMark = s.arb.stopMark := by
    unfold nextOrStarve
    split <;> simp [activateSlot, testEndOfWork]
  have hpause : (pauseOrNext s).arb.stopMark = s.arb.stopMark := by
    unfold pauseOrNext
    split <;> simp [hnext]
  refine ⟨by simp [testEndOfWork], fun k => by simp [activateSlot, testEndOfWork], hnext, hpause, fun b e => ?_⟩
  unfold finishTests
  (repeat' split) <;> simp [hpause, activateSlot, testEndOfWork]

/-- The events Job Control hears of. -/
@[simp] theorem jobEvents_stopMark (s : State) :
    (inPosition s).arb.stopMark = s.arb.stopMark ∧ (∀ u, (unitDone u s).arb.stopMark = s.arb.stopMark) ∧
    (unitSet s).arb.stopMark = s.arb.stopMark ∧ (∀ r, (lluReportsOpen r s).arb.stopMark = s.arb.stopMark) ∧
    (giveUpHold s).arb.stopMark = s.arb.stopMark ∧ (entryLoaded s).arb.stopMark = s.arb.stopMark := by
  refine ⟨?_, fun u => ?_, ?_, fun r => ?_, by simp [giveUpHold], ?_⟩
  · unfold inPosition
    (repeat' split) <;> simp
  · unfold unitDone
    split <;> simp
  · unfold unitSet
    split <;> simp
  · unfold lluReportsOpen
    (repeat' split) <;> simp
  · unfold entryLoaded
    (repeat' split) <;> simp

/-! ### The events of the measurement, the travel, the units and the LLU -/

@[simp] theorem settleSample_stopMark (s : State) : (settleSample s).arb.stopMark = s.arb.stopMark := by
  unfold settleSample
  dsimp only
  (repeat' split) <;> simp [endMeasurement]

/-- A sample, whatever the LLU makes of it. -/
@[simp] theorem takeSampleStep_stopMark (sample : Channels Reading) (s : State) :
    (takeSampleStep sample s).arb.stopMark = s.arb.stopMark := by
  have hllu (before : Channels ChannelRec) (t : State) : (lluSample before t).arb.stopMark = t.arb.stopMark := by
    unfold lluSample lluSensorLost liftSample
    (repeat' split) <;> simp
  simp [takeSampleStep, hllu]

/-- A step of the odometer, and the end of the settling at a place. -/
@[simp] theorem travelEvents_stopMark (s : State) :
    (∀ b, (afterStep b s).arb.stopMark = s.arb.stopMark) ∧ (judgeRest s).arb.stopMark = s.arb.stopMark := by
  refine ⟨fun b => ?_, ?_⟩
  · unfold afterStep travelFault
    (repeat' split) <;> simp
  · unfold judgeRest travelFault
    dsimp only
    (repeat' split) <;> simp

/-- A unit's grant and completions. -/
@[simp] theorem unitEvents_stopMark (u : UnitId) (s : State) :
    (takeUnitGrant u s).arb.stopMark = s.arb.stopMark ∧ (endMotion u s).arb.stopMark = s.arb.stopMark ∧
    (shiftDone u s).arb.stopMark = s.arb.stopMark ∧ (depthDone u s).arb.stopMark = s.arb.stopMark ∧
    (tinesDone u s).arb.stopMark = s.arb.stopMark ∧ (parkDone u s).arb.stopMark = s.arb.stopMark := by
  have hinsertion (t : State) : (insertionDone u t).arb.stopMark = t.arb.stopMark := by
    unfold insertionDone
    split <;> simp
  refine ⟨?_, by simp [endMotion], ?_, ?_, ?_, ?_⟩
  · unfold takeUnitGrant
    dsimp only
    (repeat' split) <;> simp
  · unfold shiftDone
    split <;> simp [endMotion]
  · unfold depthDone
    dsimp only
    split <;> simp [endMotion]
  · unfold tinesDone
    split <;> simp [hinsertion]
  · unfold parkDone
    split <;> simp [endMotion]

/-- A unit's expiries. -/
@[simp] theorem unitExpiries_stopMark (u : UnitId) (s : State) :
    (unitStuck u s).arb.stopMark = s.arb.stopMark ∧ (insertionExpired u s).arb.stopMark = s.arb.stopMark := by
  have hblocked (t : State) : (blockInsertion u t).arb.stopMark = t.arb.stopMark := by
    unfold blockInsertion
    split <;> simp
  refine ⟨by simp [unitStuck, unitEvent], ?_⟩
  unfold insertionExpired
  split <;> simp [retryInsertion, hblocked]

/-- The LLU's grant, its completions and the failing of its clamps. -/
@[simp] theorem lluEvents_stopMark (s : State) :
    (takeLluGrant s).arb.stopMark = s.arb.stopMark ∧ (clampDone s).arb.stopMark = s.arb.stopMark ∧
    (unclampDone s).arb.stopMark = s.arb.stopMark ∧ (clampFailed s).arb.stopMark = s.arb.stopMark := by
  refine ⟨?_, ?_, ?_, by simp [clampFailed]⟩
  · unfold takeLluGrant
    (repeat' split) <;> simp
  · unfold clampDone
    dsimp only
    split <;> simp
  · unfold unclampDone
    dsimp only
    split <;> simp

end Sys2Proof.Machine

namespace Sys2Proof.Machine

/-! ## Every command keeps the arbiter sound (R162 to R170) -/

/-- From `s` to `t` the arbiter's stop mark, the stop line and the parameters stand. -/
def LineKept (s t : State) : Prop :=
  t.arb.stopMark = s.arb.stopMark ∧ t.field.stopLine = s.field.stopLine ∧ t.params = s.params

theorem ArbiterSound.record {s : State} (h : ArbiterSound s) : s.arb.Sound := h.1

/-- What the arbiter rests on beside its own record. -/
theorem ArbiterSound.kept {s t : State} (h : ArbiterSound s) (harb : t.arb.Sound) (hk : LineKept s t) : ArbiterSound t := by
  obtain ⟨-, hmark, hslots⟩ := h
  obtain ⟨hstands, hline, hparams⟩ := hk
  exact ⟨harb, by rw [hstands, hline, hmark], hparams ▸ hslots⟩

/-- A change that does not reach the arbiter. -/
theorem ArbiterSound.aside {s t : State} (h : ArbiterSound s) (harb : t.arb = s.arb) (hline : t.field.stopLine = s.field.stopLine)
    (hparams : t.params = s.params) : ArbiterSound t := by
  exact h.kept (harb ▸ h.record) ⟨congrArg Arbiter.stopMark harb, hline, hparams⟩

/-- A guarded event keeps the arbiter sound when what it does keeps it. -/
theorem ite_arbiterSound {p : Prop} [Decidable p] {s t : State} (h : ArbiterSound s) (ht : ArbiterSound t) :
    ArbiterSound (if p then t else s) := by
  split
  · exact ht
  · exact h

/-- The end of an event: the retreat is followed up and the drive order issued. -/
theorem ArbiterSound.concluded {s : State} (h : ArbiterSound s) : ArbiterSound (conclude (followRetreat s)) := by
  exact h.kept (by simpa using followRetreat_arb h.record) (by simp [LineKept])

/-- An event that sends the arbiter requests and the like alone. -/
theorem ArbiterSound.event {s t : State} (h : ArbiterSound s) (harb : t.arb.Sound) (hk : LineKept s t) :
    ArbiterSound (conclude (followRetreat t)) := (h.kept harb hk).concluded

/-! ### Requests -/

theorem takeRequest_arbiterSound {f : Frame} {fits reading : Bool} {owner : State → State × Answer} {s : State}
    (h : ArbiterSound s) (ho : ∀ t, ArbiterSound t → ArbiterSound (owner t).1) : ArbiterSound (takeRequest f fits reading owner s) :=
  takeRequest_holds (fun _ _ ht => ht) h fun _ _ ht => ho _ ht

theorem readRequest_arbiterSound {f : Frame} {fits : Bool} {a : State → Answer} {s : State} (h : ArbiterSound s) :
    ArbiterSound (readRequest f fits a s) := takeRequest_arbiterSound h fun _ ht => ht

/-- The stored slot count stays from 2 to 5 (R43): it is the stored one or the clamped value of the request. -/
theorem Params.update_grantSlots {p : Params} (h : 2 ≤ p.grantSlots ∧ p.grantSlots ≤ 5) (body : List Byte) :
    2 ≤ (p.update body).grantSlots ∧ (p.update body).grantSlots ≤ 5 := by
  have hrow : some (p.update body).grantSlots = p.rowAfter body 20 := p.values_update body (n := 20) (by decide)
  unfold Params.rowAfter at hrow
  split at hrow
  · next v _ =>
    rw [Option.some_inj.1 hrow]
    exact clampParam_inRange (n := 20) (by decide) v
  · rw [Option.some_inj.1 (hrow : _ = some p.grantSlots)]
    exact h

/-- The arbiter takes the slot count as it is stored (R43, R169). -/
theorem parametersOwner_arbiterSound {body : List Byte} {s : State} (h : ArbiterSound s) :
    ArbiterSound (parametersOwner body s).1 := by
  by_cases hidle : s.job.state = .idle
  · obtain ⟨harb, hmark, hslots⟩ := h
    obtain ⟨hlow, hhigh⟩ := Params.update_grantSlots hslots body
    rw [parametersOwner_stores hidle]
    refine ⟨?_, ?_, hlow, hhigh⟩ <;> dsimp only <;> split
    · exact harb.setSlots hlow hhigh
    · exact harb
    · rw [Arbiter.setSlots_stopMark]
      exact hmark
    · exact hmark
  · rw [parametersOwner, if_pos hidle]
    exact h

/-- The drive order at the end of a request. -/
theorem ArbiterSound.driven {s : State} (h : ArbiterSound s) : ArbiterSound (issueDrive s) :=
  h.aside (by simp) (by simp) (by simp)

theorem ArbiterSound.reported {s : State} (h : ArbiterSound s) : ArbiterSound (issueDrive (reportJob s)) :=
  ArbiterSound.driven (s := reportJob s) h

theorem activateSlot_arbiterSound {k : Nat} {s : State} (h : ArbiterSound s) : ArbiterSound (activateSlot k s) :=
  h.kept (activateSlot_arb k h.record) (by simp [LineKept])

theorem nextOrStarve_arbiterSound {s : State} (h : ArbiterSound s) : ArbiterSound (nextOrStarve s) :=
  h.kept (nextOrStarve_arb h.record) (by simp [LineKept])

theorem finishTests_arbiterSound {b : Bool} {e : Entry} {s : State} (h : ArbiterSound s) : ArbiterSound (finishTests b e s) :=
  h.kept (finishTests_arb b e h.record) (by simp [LineKept])

theorem entryLoaded_arbiterSound {s : State} (h : ArbiterSound s) : ArbiterSound (entryLoaded s) :=
  h.kept (entryLoaded_arb h.record) (by simp [LineKept])

theorem commonRetreat_arbiterSound {p : Bool} {s : State} (h : ArbiterSound s) : ArbiterSound (commonRetreat p s) :=
  h.kept (commonRetreat_arb p h.record) (by simp [LineKept])

/-- Leaving HALTED clears the retreat mode alone (R165). -/
theorem leaveHalt_arbiterSound {s : State} (h : ArbiterSound s) : ArbiterSound (leaveHalt s) := h

theorem loadOwner_arbiterSound {body : List Byte} {s : State} (h : ArbiterSound s) : ArbiterSound (loadOwner body s).1 := by
  unfold loadOwner
  dsimp only
  split
  · exact h
  · exact (entryLoaded_arbiterSound (s := s.setQueue (s.queue.load (clampEntry (decodeEntry body)))) h).aside
      (by simp) (by simp) (by simp)

theorem clearOwner_arbiterSound {s : State} (h : ArbiterSound s) : ArbiterSound (clearOwner s).1 := by
  unfold clearOwner
  split <;> exact h

theorem startOwner_arbiterSound {s : State} (h : ArbiterSound s) : ArbiterSound (startOwner s).1 := by
  unfold startOwner
  repeat' split
  exacts [h, h, h, h, (activateSlot_arbiterSound (s := prepareJob s) h).reported]

theorem pauseOwner_arbiterSound {s : State} (h : ArbiterSound s) : ArbiterSound (pauseOwner s).1 := by
  unfold pauseOwner
  split
  · exact h
  · split
    · exact h.aside (by simp [pauseNow]) (by simp [pauseNow]) (by simp [pauseNow])
    · exact h

theorem resumePhase_arbiterSound {s : State} (h : ArbiterSound s) : ArbiterSound (resumePhase s) := by
  unfold resumePhase
  split
  · exact h.aside (by simp) (by simp) (by simp)
  · split
    · exact activateSlot_arbiterSound h
    · exact h
  · exact nextOrStarve_arbiterSound h
  all_goals exact h

theorem resumeOwner_arbiterSound {s : State} (h : ArbiterSound s) : ArbiterSound (resumeOwner s).1 := by
  unfold resumeOwner
  split
  · exact h
  · exact (resumePhase_arbiterSound (s := s.setJob { s.job with state := .running }) h).reported

theorem retryOwner_arbiterSound {s : State} (h : ArbiterSound s) : ArbiterSound (retryOwner s).1 := by
  unfold retryOwner
  repeat' split
  · exact h
  · exact h
  · exact h
  · exact h
  · next k _ _ _ _ _ =>
    exact (activateSlot_arbiterSound
      (s := leaveHalt (s.setQueue (s.queue.modify k fun y => { y with retries := y.retries + 1 }))) h).reported

theorem skipFaulted_arbiterSound {x : Slot} {s : State} (h : ArbiterSound s) : ArbiterSound (skipFaulted x s) :=
  h.aside (by simp [skipFaulted]) (by simp [skipFaulted]) (by simp [skipFaulted])

theorem skipOwner_arbiterSound {s : State} (h : ArbiterSound s) : ArbiterSound (skipOwner s).1 := by
  unfold skipOwner
  repeat' split
  · exact h
  · exact h
  · next x _ =>
    exact (finishTests_arbiterSound (s := reportJob (leaveHalt (skipFaulted x s)))
      (leaveHalt_arbiterSound (skipFaulted_arbiterSound h))).driven
  · exact (nextOrStarve_arbiterSound (s := reportJob (leaveHalt s)) (leaveHalt_arbiterSound h)).driven

theorem abortOwner_arbiterSound {s : State} (h : ArbiterSound s) : ArbiterSound (abortOwner s).1 := by
  unfold abortOwner
  split
  · exact h
  · exact commonRetreat_arbiterSound (h.aside (by simp) (by simp) (by simp))

theorem parkAllOwner_arbiterSound {s : State} (h : ArbiterSound s) : ArbiterSound (parkAllOwner s).1 := by
  unfold parkAllOwner
  split
  · exact commonRetreat_arbiterSound h
  · exact h

theorem openOwner_arbiterSound {body : List Byte} {s : State} (h : ArbiterSound s) : ArbiterSound (openOwner body s).1 := by
  unfold openOwner
  dsimp only
  repeat' split
  exacts [h, h, h]

theorem segmentOwner_arbiterSound {body : List Byte} {s : State} (h : ArbiterSound s) : ArbiterSound (segmentOwner body s).1 := by
  unfold segmentOwner
  dsimp only
  split <;> exact h

theorem closeOwner_arbiterSound {s : State} (h : ArbiterSound s) : ArbiterSound (closeOwner s).1 := by
  unfold closeOwner
  split <;> exact h

theorem selfTestOwner_arbiterSound {body : List Byte} {s : State} (h : ArbiterSound s) : ArbiterSound (selfTestOwner body s).1 := by
  unfold selfTestOwner
  dsimp only
  repeat' split
  exacts [h, h, h, h.aside (by simp) (by simp) (by simp)]

theorem restartOwner_arbiterSound {s : State} (h : ArbiterSound s) : ArbiterSound (restartOwner s).1 := by
  unfold restartOwner
  split <;> exact h

/-! ### The resets and the stop line -/

/-- An arbiter without grants and requests, at power-on (R162). -/
theorem Arbiter.atPowerOn_sound (stopLine : Bool) : (Arbiter.atPowerOn stopLine).Sound := by
  simp [Arbiter.Sound, Arbiter.atPowerOn]

/-- RESTART empties the arbiter under the stored slot count, and the units and the LLU in motion ask again (R162, R186). -/
theorem restartBlocks_arbiterSound {s : State} (h : ArbiterSound s) : ArbiterSound (restartBlocks s) := by
  obtain ⟨-, hmark, hlow, hhigh⟩ := h
  have hempty : (s.arb.restarted s.params.grantSlots).Sound := Arbiter.Sound.restarted hlow hhigh
  refine ⟨?_, ?_, ?_⟩
  · exact restartLlu_arb (restartUnits_arb hempty)
  · simpa [restartBlocks, Arbiter.restarted] using hmark
  · simpa [restartBlocks] using ⟨hlow, hhigh⟩

/-- The assertion takes every grant and request off, and sets the mark (R170). -/
theorem assertStopLine_arbiterSound {s : State} (h : ArbiterSound s) : ArbiterSound (assertStopLine s) := by
  obtain ⟨harb, -, hslots⟩ := h
  refine ⟨raiseFault_arb _ _ ?_, ?_, ?_⟩
  · simpa [arbiter, setStopLine] using harb.stop
  · simp [assertStopLine, arbiter, setStopLine, Arbiter.stop]
  · simpa [assertStopLine, setStopLine] using hslots

/-- The release clears the mark, the arbiter grants, and the HELD units ask for their way to park (R139, R170). -/
theorem releaseStopLine_arbiterSound {s : State} (h : ArbiterSound s) : ArbiterSound (releaseStopLine s) := by
  obtain ⟨harb, -, hslots⟩ := h
  have hresumed : (resumeUnits (arbiter Arbiter.stopReleased (setStopLine false s))).arb.Sound :=
    resumeUnits_arb harb.stopReleased
  refine ⟨?_, ?_, ?_⟩
  · simpa [releaseStopLine] using hresumed
  · simp [releaseStopLine, arbiter, setStopLine, Arbiter.stopReleased]
  · simpa [releaseStopLine, setStopLine] using hslots

/-! ### The step -/

/-- Whatever a command answers, the arbiter is sound when it was before. -/
theorem exec_arbiterSound (c : Instr) {s t : State} (h : ArbiterSound s) (ht : exec c s = .next t) : ArbiterSound t := by
  have harb := h.record
  cases c with
  | powerOn park clampsOpen stopLine => cases ht; exact ⟨Arbiter.atPowerOn_sound stopLine, rfl, by simp [Params.default]⟩
  | identify | readStatus | readParameters | readQueue | readTable | readMeasurement | readTrail =>
    cases ht; exact readRequest_arbiterSound h
  | setParameters => cases ht; exact takeRequest_arbiterSound h fun _ => parametersOwner_arbiterSound
  | loadEntry => cases ht; exact takeRequest_arbiterSound h fun _ => loadOwner_arbiterSound
  | collectResults => cases ht; exact takeRequest_arbiterSound h fun _ ht => ht
  | clearQueue => cases ht; exact takeRequest_arbiterSound h fun _ => clearOwner_arbiterSound
  | startJob => cases ht; exact takeRequest_arbiterSound h fun _ => startOwner_arbiterSound
  | pauseJob => cases ht; exact takeRequest_arbiterSound h fun _ => pauseOwner_arbiterSound
  | resumeJob => cases ht; exact takeRequest_arbiterSound h fun _ => resumeOwner_arbiterSound
  | retryEntry => cases ht; exact takeRequest_arbiterSound h fun _ => retryOwner_arbiterSound
  | skipEntry => cases ht; exact takeRequest_arbiterSound h fun _ => skipOwner_arbiterSound
  | abortJob => cases ht; exact takeRequest_arbiterSound h fun _ => abortOwner_arbiterSound
  | parkAll => cases ht; exact takeRequest_arbiterSound h fun _ => parkAllOwner_arbiterSound
  | openTable => cases ht; exact takeRequest_arbiterSound h fun _ => openOwner_arbiterSound
  | tableSegment => cases ht; exact takeRequest_arbiterSound h fun _ => segmentOwner_arbiterSound
  | closeTable => cases ht; exact takeRequest_arbiterSound h fun _ => closeOwner_arbiterSound
  | selfTest => cases ht; exact takeRequest_arbiterSound h fun _ => selfTestOwner_arbiterSound
  | restart => cases ht; exact takeRequest_arbiterSound h fun _ => restartOwner_arbiterSound
  | interByteTimeout | frameSent | byteReceived => cases ht; exact h
  | unknownKindRequest | frameReceived | lluSettleExpiry | valveReadback => cases ht; exact ite_arbiterSound h h
  | restartEffect =>
    cases ht
    exact ite_arbiterSound h
      ((restartBlocks_arbiterSound (s := s.setLink s.link.restarted) h).aside (by simp) (by simp) (by simp))
  | stopLineAssertion => cases ht; exact ite_arbiterSound (assertStopLine_arbiterSound h).concluded h
  | stopLineRelease => cases ht; exact ite_arbiterSound h (releaseStopLine_arbiterSound h).concluded
  | sampleArrival sample => cases ht; exact h.kept (takeSampleStep_arb sample harb) (by simp [LineKept])
  | sampleTimerExpiry => cases ht; exact ite_arbiterSound h (h.kept (takeSampleStep_arb _ harb) (by simp [LineKept]))
  | odometerStep mm => cases ht; exact h.event (afterStep_arb _ harb) (by simp [LineKept])
  | positionSettleExpiry => cases ht; exact ite_arbiterSound h (h.event (judgeRest_arb harb) (by simp [LineKept]))
  | selfTestItemExpiry | memoryMismatch => cases ht; exact ite_arbiterSound h (h.aside (by simp) (by simp) (by simp))
  | unitGrant u => cases ht; exact h.event (takeUnitGrant_arb u harb) (by simp [LineKept])
  | shiftReached u n => cases ht; exact ite_arbiterSound h (h.event (shiftDone_arb u harb) (by simp [LineKept]))
  | depthReached u n => cases ht; exact ite_arbiterSound h (h.event (depthDone_arb u harb) (by simp [LineKept]))
  | tinesOpen u n => cases ht; exact ite_arbiterSound h (h.event (tinesDone_arb u harb) (by simp [LineKept]))
  | atMid u n =>
    cases ht
    exact ite_arbiterSound h (h.event (enterMotion_arb u .lowering (endMotion_arb u harb)) (by simp [LineKept]))
  | atPark u n => cases ht; exact ite_arbiterSound h (h.event (parkDone_arb u harb) (by simp [LineKept]))
  | shiftTimeout u | openTimeout u | raiseMidTimeout u | raiseParkTimeout u =>
    cases ht; exact ite_arbiterSound h (h.kept (unitStuck_arb u harb) (by simp [LineKept]))
  | insertionTimerExpiry u => cases ht; exact ite_arbiterSound h (h.event (insertionExpired_arb u harb) (by simp [LineKept]))
  | squeezeTimerExpiry u => cases ht; exact ite_arbiterSound h (h.aside (by simp) (by simp) (by simp)).concluded
  | lluGrant => cases ht; exact h.event (takeLluGrant_arb harb) (by simp [LineKept])
  | clamped n => cases ht; exact ite_arbiterSound h (h.event (clampDone_arb harb) (by simp [LineKept]))
  | unclamped n => cases ht; exact ite_arbiterSound h (h.event (unclampDone_arb harb) (by simp [LineKept]))
  | clampTimeout | unclampTimeout => cases ht; exact ite_arbiterSound h (h.event (clampFailed_arb harb) (by simp [LineKept]))
  | forceLimit n =>
    cases ht
    have hdone := testEndOfWork_arb (reachDemand_arb (s := changeLlu (fun x => { x with lineForce := true }) s) harb)
    exact ite_arbiterSound h (h.event hdone (by simp [LineKept]))
  | liftTimerExpiry =>
    cases ht
    have hdone := testEndOfWork_arb (reachDemand_arb (s := changeLlu (fun x => { x with liftShort := true }) s) harb)
    exact ite_arbiterSound h (h.event hdone (by simp [LineKept]))
  | joinHoldExpiry => cases ht; exact ite_arbiterSound h (h.event (giveUpHold_arb harb) (by simp [LineKept]))

end Sys2Proof.Machine

section
open Sys2Proof Sys2Proof.Machine

/-- Settles O58: a command sends the arbiter requests, releases and the like, each of which keeps its record sound, and the stop
mark changes with the stop line alone. -/
theorem stepKeepsArbiterSound : Obligations.StepKeepsArbiterSound := by
  unfold Obligations.StepKeepsArbiterSound
  intro s t h ht
  unfold step at ht
  split at ht
  · cases ht; exact h
  · next c rest _ => exact exec_arbiterSound c (s := { s with pending := rest }) h ht

end

namespace Sys2Proof.Machine

/-! ## Which requester the arbiter grants (R164 to R168) -/

/-- A unit's turn is its place in the cycle (R164). -/
theorem UnitId.turn_eq_idxOf (p : Option UnitId) (u : UnitId) : UnitId.turn p u = (cycleAfter p).idxOf u := by
  cases p with
  | none => cases u <;> rfl
  | some p => cases p <;> cases u <;> rfl

theorem mem_cycleAfter (p : Option UnitId) (u : UnitId) : u ∈ cycleAfter p := by
  cases p with
  | none => cases u <;> decide
  | some p => cases p <;> cases u <;> decide

/-- No two units have the same turn. -/
theorem UnitId.turn_inj {p : Option UnitId} {u v : UnitId} (h : UnitId.turn p u = UnitId.turn p v) : u = v := by
  rw [UnitId.turn_eq_idxOf, UnitId.turn_eq_idxOf] at h
  exact (List.idxOf_inj (mem_cycleAfter p u)).1 h

/-- Before the first element of a list that passes a test there is none that passes it. -/
theorem idxOf_find?_le {l : List UnitId} {test : UnitId → Bool} {u v : UnitId} (hu : l.find? test = some u) (hv : test v = true) :
    l.idxOf u ≤ l.idxOf v := by
  obtain ⟨-, before, after, rfl, hbefore⟩ := List.find?_eq_some_iff_append.1 hu
  have hnot : v ∉ before := fun hm => by simpa [hv] using hbefore v hm
  calc (before ++ u :: after).idxOf u ≤ before.length := by
        by_cases hm : u ∈ before
        · rw [List.idxOf_append_of_mem hm]
          exact List.idxOf_le_length
        · simp [List.idxOf_append_of_notMem hm]
    _ ≤ (before ++ u :: after).idxOf v := by
        rw [List.idxOf_append_of_notMem hnot]
        exact Nat.le_add_right _ _

/-- The next unit waits, and no waiting unit's turn comes before its own (R164). -/
theorem Arbiter.nextUnit_first {a : Arbiter} {u : UnitId} (h : a.nextUnit = some u) :
    .unit u ∈ a.waiting ∧ ∀ v, .unit v ∈ a.waiting → UnitId.turn a.pointer u ≤ UnitId.turn a.pointer v := by
  refine ⟨by simpa using List.find?_some h, fun v hv => ?_⟩
  rw [UnitId.turn_eq_idxOf, UnitId.turn_eq_idxOf]
  exact idxOf_find?_le h (by simpa using hv)

theorem Arbiter.nextUnit_none {a : Arbiter} (h : a.nextUnit = none) (u : UnitId) : .unit u ∉ a.waiting := by
  simpa using List.find?_eq_none.1 h u (mem_cycleAfter a.pointer u)

/-- The model's choice is the requester that R164 and R165 name. -/
theorem Arbiter.chooses_of_choice {a : Arbiter} {r : Requester} (h : a.choice = some r) : a.Chooses r := by
  have hwaits := Arbiter.choice_waits h
  unfold Arbiter.choice at h
  cases r with
  | llu =>
    refine ⟨hwaits, fun hm u => Arbiter.nextUnit_none ?_ u⟩
    simp only [hm, if_true, Option.or_eq_some_iff] at h
    rcases h with h | ⟨h, -⟩
    · simp at h
    · simpa using h
  | unit u =>
    have hllu : (if a.waiting.contains .llu then some Requester.llu else none) ≠ some (.unit u) := by split <;> simp
    have hnext : a.nextUnit.map Requester.unit = some (.unit u) := by
      dsimp only at h
      split at h <;> rw [Option.or_eq_some_iff] at h
      · exact h.resolve_right fun ⟨_, h⟩ => hllu h
      · exact (h.resolve_left hllu).2
    obtain ⟨-, hfirst⟩ := Arbiter.nextUnit_first (u := u) (by simpa using hnext)
    refine ⟨hwaits, fun hm hw => ?_, hfirst⟩
    simp [hm, hw] at h

/-- At most one waiting requester is to be chosen. -/
theorem Arbiter.Chooses.unique {a : Arbiter} {r r' : Requester} (h : a.Chooses r) (h' : a.Chooses r') : r' = r := by
  have mixed {u : UnitId} (hl : a.Chooses .llu) (hu : a.Chooses (.unit u)) : False := by
    obtain ⟨hllu, hunits⟩ := hl
    obtain ⟨hunit, hnone, -⟩ := hu
    cases hm : a.retreatMode with
    | false => exact hnone hm hllu
    | true => exact hunits hm u hunit
  cases r with
  | llu =>
    cases r' with
    | llu => rfl
    | unit v => exact (mixed h h').elim
  | unit u =>
    cases r' with
    | llu => exact (mixed h' h).elim
    | unit v =>
      obtain ⟨hu, -, hfirst⟩ := h
      obtain ⟨hv, -, hfirst'⟩ := h'
      exact congrArg _ (UnitId.turn_inj (Nat.le_antisymm (hfirst' u hu) (hfirst v hv)))

/-- While somebody waits, the model chooses, and so somebody is to be chosen. -/
theorem Arbiter.exists_choice {a : Arbiter} (h : a.waiting ≠ []) : ∃ r, a.choice = some r :=
  Option.isSome_iff_exists.1 (Arbiter.choice_isSome h)

theorem Arbiter.choice_of_chooses {a : Arbiter} {r : Requester} (hw : a.waiting ≠ []) (h : a.Chooses r) : a.choice = some r := by
  obtain ⟨r', hr'⟩ := Arbiter.exists_choice hw
  rw [hr', h.unique (Arbiter.chooses_of_choice hr')]

theorem Arbiter.canGrant_iff {a : Arbiter} : a.canGrant = true ↔ a.MayGrant := by
  simp [Arbiter.canGrant, Arbiter.MayGrant, and_assoc]

/-- While the four conditions hold one requester is granted, and the arbiter tests again (R166). -/
theorem Arbiter.grant_of_mayGrant {a : Arbiter} {r : Requester} (hm : a.MayGrant) (hc : a.Chooses r) :
    a.grant = (a.granting r).grant := by
  obtain ⟨-, -, -, hw⟩ := id hm
  have hchoice := Arbiter.choice_of_chooses hw hc
  have hlen : a.waiting.length = (a.waiting.erase r).length + 1 := by
    rw [List.length_erase_of_mem (Arbiter.choice_waits hchoice)]
    have := List.length_pos_iff.2 hw
    omega
  have hto : a.grantTo r = a.granting r := by cases r <;> rfl
  rw [Arbiter.grant, hlen, Arbiter.grantLoop, if_pos (Arbiter.canGrant_iff.2 hm), hchoice]
  exact congrArg (Arbiter.grantLoop _) hto

theorem Arbiter.grant_of_not_mayGrant {a : Arbiter} (h : ¬ a.MayGrant) : a.grant = a := by
  rw [Arbiter.grant]
  cases a.waiting.length with
  | zero => rfl
  | succ n => rw [Arbiter.grantLoop, if_neg (mt Arbiter.canGrant_iff.1 h)]

theorem Arbiter.request_known {a : Arbiter} {r : Requester} (h : r ∈ a.granted ∨ r ∈ a.waiting) : a.request r = a :=
  if_pos (by simpa [Arbiter.knows] using h)

theorem Arbiter.request_new {a : Arbiter} {r : Requester} (hg : r ∉ a.granted) (hw : r ∉ a.waiting) :
    a.request r = ({ a with waiting := a.waiting ++ [r] } : Arbiter).grant := if_neg (by simp [Arbiter.knows, hg, hw])

theorem Arbiter.release_ignored {a : Arbiter} {r : Requester} (h : r ∉ a.granted) : a.release r = a := if_neg (by simpa using h)

/-- A grant given back leads to the test, under the pending count if it is in force (R167, R169). -/
theorem Arbiter.release_granted {a : Arbiter} {r : Requester} (h : r ∈ a.granted) : a.release r = (a.without r).grant := by
  have hwithout : Arbiter.takePending { a with granted := a.granted.erase r } = a.without r := by
    unfold Arbiter.takePending Arbiter.without
    cases a.pendingN <;> rfl
  rw [Arbiter.release, if_pos (by simpa using h), Arbiter.dropGrant, hwithout]

theorem Arbiter.withdraw_waiting {a : Arbiter} {r : Requester} (h : r ∈ a.waiting) :
    a.withdraw r = { a with waiting := a.waiting.erase r } := if_pos (by simpa using h)

theorem Arbiter.withdraw_crossed {a : Arbiter} {r : Requester} (h : r ∉ a.waiting) : a.withdraw r = a.release r :=
  if_neg (by simpa using h)

/-! ## The grant's arrival (R121, R122, R141, R146, R155, R161) -/

/-- The follow-up of a retreat finds nothing to do while the LLU has no release to wait for and the retreat mode is to stand. -/
theorem followRetreat_stands {w : State} (hrelease : w.llu.state.waitsClamped = false ∨ w.allParked = false)
    (hmode : w.arb.retreatMode = false ∨ (w.retreatComplete || w.retreatStalled) = false) : followRetreat w = w := by
  have hllu : lluRetreatRelease w = w := if_neg (by rcases hrelease with h | h <;> simp [h])
  rw [followRetreat, hllu]
  exact if_neg (by rcases hmode with h | h <;> simp [h])

section
variable {s : State}

/-- Where the follow-up of a retreat finds nothing to do, an event that changes one unit, the arbiter and the orders changes nothing
else. -/
theorem unitEvent_unitMoved_stands {u : UnitId} {x : TUnit} {a : Arbiter} {orders : List FieldOrder}
    (h : followRetreat (s.unitStep u x a orders) = s.unitStep u x a orders) :
    UnitMoved u x a orders s (unitEvent (s.unitStep u x a orders)) := by
  rw [unitEvent, h]
  obtain ⟨⟨htravel, hfield⟩, hlink⟩ := conclude_issued (s.unitStep u x a orders)
  rw [List.append_nil] at hfield
  exact ⟨conclude_eq _, ⟨htravel, hfield⟩, hlink⟩

/-- The same of an event that changes the LLU, the arbiter and the orders. -/
theorem unitEvent_lluMoved_stands {x : Llu} {a : Arbiter} {orders : List FieldOrder}
    (h : followRetreat (s.lluStep x a orders) = s.lluStep x a orders) :
    LluMoved x a orders s (unitEvent (s.lluStep x a orders)) := by
  rw [unitEvent, h]
  obtain ⟨⟨htravel, hfield⟩, hlink⟩ := conclude_issued (s.lluStep x a orders)
  rw [List.append_nil] at hfield
  exact ⟨conclude_eq _, ⟨htravel, hfield⟩, hlink⟩

/-- A unit that is not PARKED keeps the LLU from releasing, and outside the retreat mode, or with the unit RETREATING, that mode stands:
its event does no more. -/
theorem unitEvent_unitMoved_motion {u : UnitId} {x : TUnit} {a : Arbiter} {orders : List FieldOrder} (hx : x.state ≠ .parked)
    (h : a.retreatMode = false ∨ x.state = .retreating) : UnitMoved u x a orders s (unitEvent (s.unitStep u x a orders)) := by
  rcases h with hmode | hst
  · refine unitEvent_unitMoved_stands (followRetreat_stands (.inr (Bool.eq_false_iff.2 fun hp => hx ?_)) (.inl hmode))
    simpa using (allParked_iff (s.unitStep u x a orders)).1 hp u
  · exact unitEvent_unitMoved_retreating hst

/-- The motion order of the model is that of the table (R119). -/
theorem TUnit.MotionOrder.model {x : TUnit} {p : Params} {o : UnitOrder} {ms : Nat} (h : x.MotionOrder p o ms) :
    x.motionOrder p = some (o, ms) := by
  unfold TUnit.motionOrder
  rcases h with ⟨g, hg, hentry⟩ | ⟨hst, rfl, rfl⟩ | ⟨hst, rfl, rfl⟩
  · have hgiven : x.given = g := by rw [TUnit.given, hg]; rfl
    rcases hentry with ⟨hst, rfl, rfl⟩ | ⟨hst, rfl, rfl⟩ <;> simp [hst, hgiven, shiftTime]
  · simp [hst, raiseTime]
  · rcases hst with hst | hst <;> simp [hst, raiseTime]

/-- The grant reaches a waiting unit that holds it: the unit issues the order of its motion (R122). -/
theorem takeUnitGrant_issues {u : UnitId} {o : UnitOrder} {ms : Nat} (hno : (s.unit u).orderNo ≤ 255)
    (hw : (s.unit u).waiting = true) (hg : .unit u ∈ s.arb.granted) (ho : (s.unit u).motionOrder s.params = some (o, ms)) :
    takeUnitGrant u s = s.unitStep u { (s.unit u).ordered o ms with waiting := false } s.arb
      [.unit u o (numberAfter (s.unit u).orderNo)] := by
  have hcontains : s.arb.granted.contains (.unit u) = true := by simpa using hg
  simp only [takeUnitGrant, hw, if_true, hcontains, ho]
  exact takeUnitGrant_orders hno

/-- A unit that waits for nothing and has no motion under way gives the grant back (R141). -/
theorem takeUnitGrant_returns {u : UnitId} (hw : (s.unit u).waiting = false)
    (h : (s.unit u).order = none ∨ (s.unit u).state.motion = false) :
    takeUnitGrant u s = s.unitStep u (s.unit u) (s.arb.release (.unit u)) [] := by
  have hidle : ((s.unit u).order.isSome && (s.unit u).state.motion) = false := by rcases h with h | h <;> simp [h]
  simp [takeUnitGrant, hw, hidle, releaseGrant_step]

/-- The grant reaches an LLU that waits to clamp: CLAMP is ordered, with the hook on the demanded side (R146). -/
theorem takeLluGrant_clamps {d : Demands} (hno : s.llu.orderNo ≤ 255) (hw : s.llu.waiting = true) (hg : .llu ∈ s.arb.granted)
    (hst : s.llu.state = .clamping) (hd : s.llu.demands = some d) :
    takeLluGrant s = s.lluStep
      { s.llu.ordered (.clamp (d.hook.map (·.2))) 1500 with
        waiting := false, clampsClosed := true, hookEngaged := d.hook.isSome }
      s.arb [.llu (.clamp (d.hook.map (·.2))) (numberAfter s.llu.orderNo)] := by
  have hdem : s.llu.demanded = d := by rw [Llu.demanded, hd]; rfl
  have hstart : takeLluGrant s = startClamp s := by simp [takeLluGrant, hw, hg, hst]
  rw [hstart, startClamp, hdem, changeLlu_step, orderLlu_step (by simpa using hno), lluStep_lluStep]
  rfl

/-- The grant reaches an LLU that waits to release: UNCLAMP is ordered (R155, R159). -/
theorem takeLluGrant_unclamps (hno : s.llu.orderNo ≤ 255) (hw : s.llu.waiting = true) (hg : .llu ∈ s.arb.granted)
    (hst : s.llu.state = .releasing) :
    takeLluGrant s = s.lluStep { s.llu.ordered .unclamp 1500 with waiting := false } s.arb
      [.llu .unclamp (numberAfter s.llu.orderNo)] := by
  have hstart : takeLluGrant s = startUnclamp s := by simp [takeLluGrant, hw, hg, hst]
  rw [hstart, startUnclamp, changeLlu_step, orderLlu_step (by simpa using hno), lluStep_lluStep]
  rfl

/-- An LLU that waits for nothing and has no order gives the grant back (R161). -/
theorem takeLluGrant_returns (hw : s.llu.waiting = false) (ho : s.llu.order = none) :
    takeLluGrant s = s.lluStep s.llu (s.arb.release .llu) [] := by
  simp [takeLluGrant, hw, ho, releaseLluGrant_step]

/-- An LLU that is RELEASING has no release to wait for, and the retreat goes on until it has released (R38, R159). -/
theorem followRetreat_releasing {w : State} (h : w.llu.state = .releasing) : followRetreat w = w := by
  refine followRetreat_stands (.inl (by rw [h]; rfl)) (.inr ?_)
  simp [State.retreatComplete, State.retreatStalled, h]

end

end Sys2Proof.Machine

section
open Sys2Proof Sys2Proof.Machine

/-- Settles O47: the model's choice is the one requester that the rules name, each message leads to the arbiter's test as its rule
gives, and a grant that arrives is one change of its requester. -/
theorem grantsIssueTheOrder : Obligations.GrantsIssueTheOrder := by
  unfold Obligations.GrantsIssueTheOrder
  refine ⟨fun a => ⟨fun hw => ?_, fun r => Arbiter.grant_of_mayGrant, Arbiter.grant_of_not_mayGrant, fun r =>
    ⟨Arbiter.request_known, Arbiter.request_new, Arbiter.release_ignored, Arbiter.release_granted, Arbiter.withdraw_waiting,
      Arbiter.withdraw_crossed⟩⟩, fun s => ⟨fun u o ms hx hw hg ho hr => ?_, fun u hw ho hnr => ?_,
    fun d o hx hw hg hst hnr hd ho => ?_, fun hx hw hg hst => ?_, fun hw ho hnr => ?_⟩⟩
  · obtain ⟨r, hr⟩ := Arbiter.exists_choice hw
    have hc := Arbiter.chooses_of_choice hr
    exact ⟨r, hc, fun r' => hc.unique⟩
  · obtain ⟨-, -, -, -, hmoves⟩ := UnitState.motion_open (TUnit.motionOrder_fits ho.model).2
    have hexec : exec (.unitGrant u) s = .next (unitEvent (takeUnitGrant u s)) := rfl
    rw [takeUnitGrant_issues hx.number_le hw hg ho.model] at hexec
    exact ⟨_, hexec, unitEvent_unitMoved_motion hmoves hr⟩
  · have hexec : exec (.unitGrant u) s = .next (unitEvent (takeUnitGrant u s)) := rfl
    rw [takeUnitGrant_returns hw ho] at hexec
    exact ⟨_, hexec, unitEvent_unitMoved (hnr.released ..)⟩
  · subst ho
    have hexec : exec .lluGrant s = .next (unitEvent (takeLluGrant s)) := rfl
    rw [takeLluGrant_clamps hx.number_le hw hg hst hd] at hexec
    exact ⟨_, hexec, unitEvent_lluMoved hnr⟩
  · have hexec : exec .lluGrant s = .next (unitEvent (takeLluGrant s)) := rfl
    rw [takeLluGrant_unclamps hx.number_le hw hg hst] at hexec
    exact ⟨_, hexec, unitEvent_lluMoved_stands (followRetreat_releasing hst)⟩
  · have hexec : exec .lluGrant s = .next (unitEvent (takeLluGrant s)) := rfl
    rw [takeLluGrant_returns hw ho] at hexec
    exact ⟨_, hexec, unitEvent_lluMoved ⟨(Arbiter.release_keeps _ _).1.trans hnr.1, hnr.2⟩⟩

end

namespace Sys2Proof.Machine

/-! ## The bounds of the link (R173, R176 to R179) -/

/-- The receiver's record and the bounds of the link's buffers and counts (R173), with at most `n` taken replies unsent (R179). -/
def Link.Within (n : Nat) (l : Link) : Prop :=
  l.ReceiverSound ∧ l.input.length ≤ 4 ∧ (l.replies.filter (·.busy)).length ≤ 4 ∧
  (l.replies.filter (!·.busy)).length ≤ n ∧ l.reports.length ≤ 16 ∧ l.dropped ≤ 255

/-- What waits to be sent has a frame on the line before it, but that a report waits for a frame that may be taken (R179, R182). -/
def Link.Served (l : Link) : Prop :=
  l.line = none → l.restartPending = false → l.replies = [] ∧ (l.reports = [] ∨ l.input ≠ [])

theorem linkSound_iff {s : State} : LinkSound s ↔ s.link.Within 1 ∧ s.link.Served := by
  simp only [LinkSound, Link.Within, Link.Served, and_assoc]

/-! ### Sending (R182, R183) -/

/-- A report takes room in the report queue or none, and touches no other bound (R183). -/
@[simp] theorem Link.place_within (l : Link) (r : Report) (n : Nat) : (l.place r).Within n ↔ l.Within n := by
  unfold Link.place
  split
  · next hroom =>
    have hroom : l.reports.length < 16 := hroom
    have hfits : l.reports.length + 1 ≤ 16 ↔ l.reports.length ≤ 16 := by omega
    simp [Link.Within, Link.ReceiverSound, hfits]
  · rfl

/-- Beginning a frame takes at most a report from the queue (R182). -/
theorem Link.Within.begin {l : Link} {n : Nat} (h : l.Within n) : l.begin.Within n := by
  unfold Link.begin
  split
  · exact h
  · split
    · exact h
    · split
      · exact h
      · split
        · exact h
        · next hreports =>
          obtain ⟨hrx, hin, hbusy, htaken, hrep, hdrop⟩ := h
          rw [hreports, List.length_cons] at hrep
          exact ⟨hrx, hin, hbusy, htaken, Nat.le_of_succ_le hrep, hdrop⟩

/-- Once the next frame has begun, what waits has a frame before it (R182). -/
theorem Link.begin_served (l : Link) : l.begin.Served := by
  unfold Link.begin
  split
  · next hbusy =>
    intro hfree hrun
    simp [hfree, hrun, Link.restartDue] at hbusy
  · split
    · intro hfree
      cases hfree
    · next hreplies =>
      split
      · next hwaits =>
        intro _ hrun
        exact ⟨hreplies, .inr (by simpa [hrun] using hwaits)⟩
      · split
        · next hreports => exact fun _ _ => ⟨hreplies, .inl hreports⟩
        · intro hfree
          cases hfree

/-- The last byte sent takes a reply from the list at most (R182). -/
theorem Link.Within.sent {l : Link} {n : Nat} (h : l.Within n) : l.sent.Within n := by
  obtain ⟨hrx, hin, hbusy, htaken, hrep, hdrop⟩ := id h
  have hfewer (p : Reply → Bool) : ((l.replies.drop 1).filter p).length ≤ (l.replies.filter p).length :=
    ((List.drop_sublist 1 l.replies).filter p).length_le
  unfold Link.sent
  split
  · exact h
  · next f _ =>
    cases hf : f.isReply
    · exact h
    · exact ⟨hrx, hin, (hfewer _).trans hbusy, (hfewer _).trans htaken, hrep, hdrop⟩

/-! ### The receiver (R176 to R178) -/

/-- A move of the receiver and its timer leaves the buffers and counts. -/
theorem Link.Within.receiver {l : Link} {n : Nat} (h : l.Within n) {r : Receiver} {ms : Timer}
    (hr : ({ l with receiver := r, byteTimer := ms } : Link).ReceiverSound) :
    ({ l with receiver := r, byteTimer := ms } : Link).Within n := ⟨hr, h.2⟩

/-- The receiver hunts with its timer stopped (R177). -/
theorem Link.Within.hunts {l : Link} {n : Nat} (h : l.Within n) :
    ({ l with receiver := .hunt, byteTimer := none } : Link).Within n := h.receiver (by simp [Link.ReceiverSound])

theorem Link.Within.hunt {l : Link} {n : Nat} (h : l.Within n) (b : Byte) : (l.hunt b).Within n := by
  unfold Link.hunt
  split
  · exact h.receiver (by simp [Link.ReceiverSound])
  · exact h.hunts

theorem Link.Within.lengthFormed {l : Link} {n : Nat} (h : l.Within n) (low high : Byte) : (l.lengthFormed low high).Within n := by
  unfold Link.lengthFormed
  dsimp only
  split
  · next hlength => exact h.receiver (by simp [Link.ReceiverSound]; omega)
  · split
    · exact h.receiver (by simp [Link.ReceiverSound])
    · exact h.hunt high

/-- A whole frame finds room in the buffer or among the busy refusals, or is counted as dropped (R178). -/
theorem Link.Within.arrive {l : Link} {n : Nat} (h : l.Within n) (f : Frame) : (l.arrive f).Within n := by
  obtain ⟨hrx, hin, hbusy, htaken, hrep, hdrop⟩ := h
  unfold Link.arrive
  split
  · next hroom =>
    refine ⟨hrx, ?_, hbusy, htaken, hrep, hdrop⟩
    rw [List.length_append]
    exact hroom
  · split
    · next hroom =>
      refine ⟨hrx, hin, ?_, by simpa [busyReply] using htaken, hrep, hdrop⟩
      simp only [List.filter_append, List.length_append]
      exact hroom
    · exact ⟨hrx, hin, hbusy, htaken, hrep, by simp⟩

/-- A byte of the line keeps the link within its bounds, whatever the receiver waits for (R176, R178). -/
theorem Link.Within.receive {l : Link} {n : Nat} (h : l.Within n) (b : Byte) : (l.receive b).Within n := by
  obtain ⟨⟨-, hshape⟩, -⟩ := id h
  unfold Link.receive
  cases hr : l.receiver with
  | hunt => exact h.hunt b
  | lengthFirst => exact h.receiver (by simp [Link.ReceiverSound])
  | lengthSecond low => exact h.lengthFormed low b
  | body m got =>
    simp only [hr] at hshape
    dsimp only
    split <;> exact h.receiver (by simp [Link.ReceiverSound]; omega)
  | checkFirst got =>
    simp only [hr] at hshape
    exact h.receiver (by simpa [Link.ReceiverSound] using hshape)
  | checkSecond got low =>
    unfold Link.judge
    dsimp only
    split
    · exact h.hunts.arrive _
    · exact h.hunts

theorem Link.Within.gapExpired {l : Link} {n : Nat} (h : l.Within n) : l.gapExpired.Within n := by
  unfold Link.gapExpired
  split
  · exact h.hunts
  · exact h

/-! ### The take and the reply (R179) -/

/-- A frame is taken with no taken reply unsent (R179). -/
theorem Link.Within.taken {l : Link} {f : Frame} {n : Nat} (h : l.Within n) (hf : l.mayTake f = true) : l.taken.Within 0 := by
  obtain ⟨hrx, hin, hbusy, -, hrep, hdrop⟩ := h
  have hnone : l.replies.filter (!·.busy) = [] := by
    rw [List.filter_eq_nil_iff]
    simp only [Link.mayTake, Link.owesReply, Bool.and_eq_true, Bool.not_eq_true', List.any_eq_false] at hf
    exact fun r hr => by simpa using hf.1.1 r hr
  exact ⟨hrx, (List.drop_sublist 1 l.input).length_le.trans hin, hbusy, by simp [Link.taken, hnone], hrep, hdrop⟩

/-- The reply of a taken request is the one taken reply unsent (R179). -/
theorem Link.Within.reply {l : Link} (h : l.Within 0) (f : Frame) (a : Answer) : (l.reply f a).Within 1 := by
  obtain ⟨hrx, hin, hbusy, htaken, hrep, hdrop⟩ := h
  refine ⟨hrx, hin, by simpa [Link.reply] using hbusy, ?_, hrep, hdrop⟩
  simpa [Link.reply] using htaken

theorem Link.bare_within : Link.bare.Within 0 := by simp [Link.Within, Link.ReceiverSound, Link.bare]

theorem Link.restarted_within (l : Link) : l.restarted.Within 0 := by simp [Link.Within, Link.ReceiverSound, Link.restarted]

end Sys2Proof.Machine

namespace Sys2Proof.Machine

/-! ## What a command does to the link and to the waiting commands -/

/-! ### Job Control and the self-test place reports, and touch nothing else of the link (R183) -/

@[simp] theorem place_within (r : Report) (s : State) (n : Nat) : (place r s).link.Within n ↔ s.link.Within n :=
  Link.place_within ..

@[simp] theorem reportJob_within (s : State) (n : Nat) : (reportJob s).link.Within n ↔ s.link.Within n := place_within ..

@[simp] theorem finishActive_within (final : SlotState) (residual : Option (Int × Int)) (missing : Bool) (fault : Option FaultCode)
    (s : State) (n : Nat) : (finishActive final residual missing fault s).link.Within n ↔ s.link.Within n := by
  unfold finishActive
  dsimp only
  split <;> simp

@[simp] theorem completeJob_within (s : State) (n : Nat) : (completeJob s).link.Within n ↔ s.link.Within n := by
  simp [completeJob]

@[simp] theorem pauseAtFinish_within (s : State) (n : Nat) : (pauseAtFinish s).link.Within n ↔ s.link.Within n := by
  simp [pauseAtFinish]

@[simp] theorem finishHeld_within (s : State) (n : Nat) : (finishHeld s).link.Within n ↔ s.link.Within n := by
  simp [finishHeld]

/-- However many rounds the end of work takes, it places reports alone (R31). -/
@[simp] theorem endOfWork_within (rounds : Nat) (s : State) (n : Nat) : (endOfWork rounds s).link.Within n ↔ s.link.Within n := by
  induction rounds generalizing s with
  | zero => rfl
  | succ rounds ih =>
    unfold endOfWork
    repeat' split
    all_goals simp [ih]

@[simp] theorem testEndOfWork_within (s : State) (n : Nat) : (testEndOfWork s).link.Within n ↔ s.link.Within n :=
  endOfWork_within ..

@[simp] theorem activateSlot_within (k : Nat) (s : State) (n : Nat) : (activateSlot k s).link.Within n ↔ s.link.Within n := by
  simp [activateSlot]

@[simp] theorem nextOrStarve_within (s : State) (n : Nat) : (nextOrStarve s).link.Within n ↔ s.link.Within n := by
  unfold nextOrStarve
  split <;> simp

@[simp] theorem pauseOrNext_within (s : State) (n : Nat) : (pauseOrNext s).link.Within n ↔ s.link.Within n := by
  unfold pauseOrNext
  split <;> simp

@[simp] theorem finishTests_within (skipped : Bool) (e : Entry) (s : State) (n : Nat) :
    (finishTests skipped e s).link.Within n ↔ s.link.Within n := by
  unfold finishTests
  (repeat' split) <;> simp

@[simp] theorem halt_within (code : FaultCode) (source : FaultSource) (s : State) (n : Nat) :
    (halt code source s).link.Within n ↔ s.link.Within n := by
  simp [halt]

@[simp] theorem recordFurther_within (code : FaultCode) (s : State) (n : Nat) :
    (recordFurther code s).link.Within n ↔ s.link.Within n := by
  simp [recordFurther]

@[simp] theorem raiseFault_within (code : FaultCode) (source : FaultSource) (s : State) (n : Nat) :
    (raiseFault code source s).link.Within n ↔ s.link.Within n := by
  unfold raiseFault
  split <;> simp

@[simp] theorem inPosition_within (s : State) (n : Nat) : (inPosition s).link.Within n ↔ s.link.Within n := by
  unfold inPosition
  dsimp only
  (repeat' split) <;> simp

@[simp] theorem unitDone_within (u : UnitId) (s : State) (n : Nat) : (unitDone u s).link.Within n ↔ s.link.Within n := by
  unfold unitDone
  split <;> simp

@[simp] theorem lluReportsOpen_within (residual : Option (Int × Int)) (s : State) (n : Nat) :
    (lluReportsOpen residual s).link.Within n ↔ s.link.Within n := by
  unfold lluReportsOpen
  (repeat' split) <;> simp

@[simp] theorem entryLoaded_within (s : State) (n : Nat) : (entryLoaded s).link.Within n ↔ s.link.Within n := by
  unfold entryLoaded
  (repeat' split) <;> simp

@[simp] theorem endTest_within (failure : Option FailureRecord) (s : State) (n : Nat) :
    (endTest failure s).link.Within n ↔ s.link.Within n := by
  simp [endTest]

@[simp] theorem judgeItem_within (s : State) (n : Nat) : (judgeItem s).link.Within n ↔ s.link.Within n := by
  unfold judgeItem
  dsimp only
  (repeat' split) <;> simp

@[simp] theorem stopTest_within (s : State) (n : Nat) : (stopTest s).link.Within n ↔ s.link.Within n := by
  unfold stopTest
  split <;> simp

/-! ### Events -/

@[simp] theorem travelFault_within (code : FaultCode) (s : State) (n : Nat) :
    (travelFault code s).link.Within n ↔ s.link.Within n := by
  simp [travelFault]

@[simp] theorem afterStep_within (saturated : Bool) (s : State) (n : Nat) :
    (afterStep saturated s).link.Within n ↔ s.link.Within n := by
  unfold afterStep
  (repeat' split) <;> simp

@[simp] theorem judgeRest_linkWithin (s : State) (n : Nat) : (judgeRest s).link.Within n ↔ s.link.Within n := by
  unfold judgeRest
  dsimp only
  (repeat' split) <;> simp

@[simp] theorem parkDone_within (u : UnitId) (s : State) (n : Nat) : (parkDone u s).link.Within n ↔ s.link.Within n := by
  unfold parkDone
  dsimp only
  split <;> simp

@[simp] theorem insertionExpired_within (u : UnitId) (s : State) (n : Nat) :
    (insertionExpired u s).link.Within n ↔ s.link.Within n := by
  unfold insertionExpired blockInsertion
  dsimp only
  (repeat' split) <;> simp

@[simp] theorem clampDone_within (s : State) (n : Nat) : (clampDone s).link.Within n ↔ s.link.Within n := by
  unfold clampDone
  dsimp only
  split <;> simp

@[simp] theorem clampFailed_within (s : State) (n : Nat) : (clampFailed s).link.Within n ↔ s.link.Within n := by
  simp [clampFailed]

@[simp] theorem settleSample_within (s : State) (n : Nat) : (settleSample s).link.Within n ↔ s.link.Within n := by
  unfold settleSample endMeasurement
  dsimp only
  (repeat' split) <;> simp

@[simp] theorem lluSample_within (before : Channels ChannelRec) (s : State) (n : Nat) :
    (lluSample before s).link.Within n ↔ s.link.Within n := by
  unfold lluSample lluSensorLost liftSample
  (repeat' split) <;> simp

@[simp] theorem resumePhase_within (s : State) (n : Nat) : (resumePhase s).link.Within n ↔ s.link.Within n := by
  unfold resumePhase
  (repeat' split) <;> simp

@[simp] theorem resumePhase_pending (s : State) : (resumePhase s).pending = s.pending := by
  unfold resumePhase
  (repeat' split) <;> simp

/-! ### The owners of the requests -/

/-- From `s` to `t` the waiting commands stand, and the link takes reports at most, which keep it within its bounds. -/
def Steady (s t : State) : Prop := t.pending = s.pending ∧ ∀ n, t.link.Within n ↔ s.link.Within n

theorem Steady.refl (s : State) : Steady s s := ⟨rfl, fun _ => .rfl⟩

theorem parametersOwner_steady (body : List Byte) (s : State) : Steady s (parametersOwner body s).1 := by
  unfold parametersOwner
  dsimp only
  (repeat' split) <;> simp [Steady]

theorem loadOwner_steady (body : List Byte) (s : State) : Steady s (loadOwner body s).1 := by
  unfold loadOwner
  dsimp only
  split <;> simp [Steady]

theorem collectOwner_steady (s : State) : Steady s (collectOwner s).1 := .refl s

theorem clearOwner_steady (s : State) : Steady s (clearOwner s).1 := by
  unfold clearOwner
  split <;> simp [Steady]

theorem startOwner_steady (s : State) : Steady s (startOwner s).1 := by
  unfold startOwner
  (repeat' split) <;> simp [Steady, prepareJob]

theorem pauseOwner_steady (s : State) : Steady s (pauseOwner s).1 := by
  unfold pauseOwner
  (repeat' split) <;> simp [Steady, pauseNow]

theorem resumeOwner_steady (s : State) : Steady s (resumeOwner s).1 := by
  unfold resumeOwner
  split <;> simp [Steady]

theorem retryOwner_steady (s : State) : Steady s (retryOwner s).1 := by
  unfold retryOwner
  dsimp only
  (repeat' split) <;> simp [Steady, leaveHalt]

theorem skipOwner_steady (s : State) : Steady s (skipOwner s).1 := by
  unfold skipOwner
  (repeat' split) <;> simp [Steady, leaveHalt, skipFaulted]

theorem abortOwner_steady (s : State) : Steady s (abortOwner s).1 := by
  unfold abortOwner
  split <;> simp [Steady, abortJob]

theorem parkAllOwner_steady (s : State) : Steady s (parkAllOwner s).1 := by
  unfold parkAllOwner
  split <;> simp [Steady]

theorem openOwner_steady (body : List Byte) (s : State) : Steady s (openOwner body s).1 := by
  unfold openOwner
  dsimp only
  (repeat' split) <;> simp [Steady]

theorem segmentOwner_steady (body : List Byte) (s : State) : Steady s (segmentOwner body s).1 := by
  unfold segmentOwner
  dsimp only
  split <;> simp [Steady]

theorem closeOwner_steady (s : State) : Steady s (closeOwner s).1 := by
  unfold closeOwner
  split <;> simp [Steady]

theorem selfTestOwner_steady (body : List Byte) (s : State) : Steady s (selfTestOwner body s).1 := by
  unfold selfTestOwner
  dsimp only
  (repeat' split) <;> simp [Steady]

/-- RESTART's own mark on the link bears on no bound (R185). -/
theorem restartOwner_steady (s : State) : Steady s (restartOwner s).1 := by
  unfold restartOwner
  split <;> exact .refl s

/-! ### Every command -/

/-- What one command can do to the link: nothing; place reports and begin the next frame; take a request and answer it; take a byte;
discard the frame under reception; end the frame on the line; or empty itself at power-on and RESTART (R173, R176, R177, R179, R182,
R183, R186). -/
inductive Link.Moves (l : Link) : Link → Prop
  | stands : l.Moves l
  | reports {m : Link} (hm : ∀ n, m.Within n ↔ l.Within n) : l.Moves m.begin
  | answers {m : Link} (f : Frame) (a : Answer) (hf : l.mayTake f = true) (hm : ∀ n, m.Within n ↔ l.taken.Within n) :
      l.Moves (m.reply f a).begin
  | receives (b : Byte) : l.Moves (l.receive b).begin
  | gap : l.Moves l.gapExpired
  | sends : l.Moves l.sent.begin
  | empties {m : Link} (hm : m.Within 0) : l.Moves m.begin

/-- Each move of the link keeps it within its bounds and its line in step (R173, R182). -/
theorem Link.Moves.sound {l m : Link} (h : l.Moves m) (hl : l.Within 1 ∧ l.Served) : m.Within 1 ∧ m.Served := by
  obtain ⟨hw, hs⟩ := hl
  cases h with
  | stands => exact ⟨hw, hs⟩
  | reports hm => exact ⟨((hm 1).2 hw).begin, Link.begin_served _⟩
  | answers f a hf hm => exact ⟨(((hm 0).2 (hw.taken hf)).reply f a).begin, Link.begin_served _⟩
  | receives b => exact ⟨(hw.receive b).begin, Link.begin_served _⟩
  | gap =>
    refine ⟨hw.gapExpired, ?_⟩
    unfold Link.gapExpired
    split <;> exact hs
  | sends => exact ⟨hw.sent.begin, Link.begin_served _⟩
  | empties hm =>
    obtain ⟨hrx, hin, hbusy, htaken, hrep, hdrop⟩ := hm
    exact ⟨Link.Within.begin ⟨hrx, hin, hbusy, Nat.le_succ_of_le htaken, hrep, hdrop⟩, Link.begin_served _⟩

/-- From `s` to `t` the commands that wait stand, and the link makes one of its moves. -/
def CommandDone (s t : State) : Prop := t.pending = s.pending ∧ s.link.Moves t.link

theorem CommandDone.refl (s : State) : CommandDone s s := ⟨rfl, .stands⟩

theorem CommandDone.stands {s t : State} (hp : t.pending = s.pending) (hl : t.link = s.link) : CommandDone s t :=
  ⟨hp, by rw [hl]; exact .stands⟩

theorem startSending_link (s : State) : (startSending s).link = s.link.begin := rfl

/-- Every command that can place a report ends with the next frame (R182). -/
theorem conclude_link (s : State) : (conclude s).link = s.link.begin := by simp [conclude, startSending_link]

/-- An event ends with the drive issued and the line going on (R104, R182). -/
theorem Steady.conclude {s t : State} (h : Steady s t) : CommandDone s (conclude t) := by
  obtain ⟨hp, hw⟩ := h
  refine ⟨by simpa using hp, ?_⟩
  rw [conclude_link]
  exact .reports hw

/-- An event of a unit or of the LLU follows the retreat up before it ends (R38). -/
theorem Steady.event {s t : State} (h : Steady s t) : CommandDone s (Machine.conclude (followRetreat t)) :=
  Steady.conclude (by simpa [Steady] using h)

/-- An event that its state does not take leaves everything as it stands (R141, R161). -/
theorem CommandDone.ite {p : Prop} [Decidable p] {s t : State} (h : CommandDone s t) : CommandDone s (if p then t else s) := by
  split
  · exact h
  · exact .refl s

/-- A taken frame is answered (R179, R181). -/
theorem answer_done {f : Frame} {s t : State} (hf : s.link.mayTake f = true) (h : Steady (s.setLink s.link.taken) t) (a : Answer) :
    CommandDone s (answer f a t) := by
  obtain ⟨hp, hw⟩ := h
  exact ⟨by simpa using hp, .answers f a hf hw⟩

/-- A request is answered, whichever test decides its reply, or it waits (R179, R180). -/
theorem takeRequest_done {owner : State → State × Answer} (h : ∀ t, Steady t (owner t).1) (f : Frame) (fits reading : Bool)
    (s : State) : CommandDone s (takeRequest f fits reading owner s) := by
  unfold takeRequest
  split
  · next hf =>
    dsimp only
    split
    · exact answer_done hf (.refl _) _
    · exact answer_done hf (h _) _
  · exact .refl s

theorem readRequest_done (f : Frame) (fits : Bool) (a : State → Answer) (s : State) : CommandDone s (readRequest f fits a s) :=
  takeRequest_done (fun t => .refl t) f fits true s

theorem takeSampleStep_done (sample : Channels Reading) (s : State) : CommandDone s (takeSampleStep sample s) :=
  Steady.event (by simp [Steady])

/-- Every command answers a next state, with the waiting commands as they were and the link moved by one of its moves. -/
theorem exec_done (c : Instr) (s : State) : ∃ t, exec c s = .next t ∧ CommandDone s t := by
  cases c with
  | powerOn park clampsOpen stopLine =>
    refine ⟨_, rfl, by simp, ?_⟩
    rw [startSending_link]
    exact .empties ((reportJob_within _ 0).2 Link.bare_within)
  | identify tag body => exact ⟨_, rfl, readRequest_done ..⟩
  | readStatus tag body => exact ⟨_, rfl, readRequest_done ..⟩
  | setParameters tag body => exact ⟨_, rfl, takeRequest_done (parametersOwner_steady body) ..⟩
  | readParameters tag body => exact ⟨_, rfl, readRequest_done ..⟩
  | loadEntry tag body => exact ⟨_, rfl, takeRequest_done (loadOwner_steady body) ..⟩
  | collectResults tag body => exact ⟨_, rfl, takeRequest_done collectOwner_steady ..⟩
  | readQueue tag body => exact ⟨_, rfl, readRequest_done ..⟩
  | clearQueue tag body => exact ⟨_, rfl, takeRequest_done clearOwner_steady ..⟩
  | startJob tag body => exact ⟨_, rfl, takeRequest_done startOwner_steady ..⟩
  | pauseJob tag body => exact ⟨_, rfl, takeRequest_done pauseOwner_steady ..⟩
  | resumeJob tag body => exact ⟨_, rfl, takeRequest_done resumeOwner_steady ..⟩
  | retryEntry tag body => exact ⟨_, rfl, takeRequest_done retryOwner_steady ..⟩
  | skipEntry tag body => exact ⟨_, rfl, takeRequest_done skipOwner_steady ..⟩
  | abortJob tag body => exact ⟨_, rfl, takeRequest_done abortOwner_steady ..⟩
  | parkAll tag body => exact ⟨_, rfl, takeRequest_done parkAllOwner_steady ..⟩
  | openTable tag body => exact ⟨_, rfl, takeRequest_done (openOwner_steady body) ..⟩
  | tableSegment tag body => exact ⟨_, rfl, takeRequest_done (segmentOwner_steady body) ..⟩
  | closeTable tag body => exact ⟨_, rfl, takeRequest_done closeOwner_steady ..⟩
  | readTable tag body => exact ⟨_, rfl, readRequest_done ..⟩
  | readMeasurement tag body => exact ⟨_, rfl, readRequest_done ..⟩
  | readTrail tag body => exact ⟨_, rfl, readRequest_done ..⟩
  | selfTest tag body => exact ⟨_, rfl, takeRequest_done (selfTestOwner_steady body) ..⟩
  | restart tag body => exact ⟨_, rfl, takeRequest_done restartOwner_steady ..⟩
  | unknownKindRequest kind tag body =>
    refine ⟨_, rfl, ?_⟩
    split
    · next hf =>
      simp only [Bool.and_eq_true] at hf
      exact answer_done hf.2 (.refl _) _
    · exact .refl s
  | frameReceived b => exact ⟨_, rfl, CommandDone.ite ⟨rfl, .receives b⟩⟩
  | interByteTimeout => exact ⟨_, rfl, rfl, .gap⟩
  | frameSent => exact ⟨_, rfl, rfl, .sends⟩
  | restartEffect =>
    refine ⟨_, rfl, CommandDone.ite ⟨by simp [restartBlocks], ?_⟩⟩
    rw [conclude_link]
    exact .empties (by simpa [restartBlocks] using s.link.restarted_within)
  | sampleArrival sample => exact ⟨_, rfl, takeSampleStep_done ..⟩
  | sampleTimerExpiry => exact ⟨_, rfl, (takeSampleStep_done ..).ite⟩
  | odometerStep mm => exact ⟨_, rfl, Steady.event (by simp [Steady])⟩
  | positionSettleExpiry => exact ⟨_, rfl, (Steady.event (by simp [Steady])).ite⟩
  | stopLineAssertion =>
    have h : Steady s (assertStopLine s) := by simp [Steady, assertStopLine, setStopLine]
    refine ⟨_, rfl, ?_⟩
    split
    · exact .refl s
    · exact h.event
  | stopLineRelease => exact ⟨_, rfl, (Steady.event (by simp [Steady, releaseStopLine, setStopLine])).ite⟩
  | unitGrant u => exact ⟨_, rfl, Steady.event (by simp [Steady])⟩
  | lluGrant => exact ⟨_, rfl, Steady.event (by simp [Steady])⟩
  | shiftReached u n => exact ⟨_, rfl, (Steady.event (by simp [Steady])).ite⟩
  | depthReached u n => exact ⟨_, rfl, (Steady.event (by simp [Steady])).ite⟩
  | tinesOpen u n => exact ⟨_, rfl, (Steady.event (by simp [Steady])).ite⟩
  | atMid u n => exact ⟨_, rfl, (Steady.event (by simp [Steady])).ite⟩
  | atPark u n => exact ⟨_, rfl, (Steady.event (by simp [Steady])).ite⟩
  | shiftTimeout u => exact ⟨_, rfl, (Steady.event (by simp [Steady])).ite⟩
  | insertionTimerExpiry u => exact ⟨_, rfl, (Steady.event (by simp [Steady])).ite⟩
  | squeezeTimerExpiry u => exact ⟨_, rfl, (Steady.event (by simp [Steady])).ite⟩
  | openTimeout u => exact ⟨_, rfl, (Steady.event (by simp [Steady])).ite⟩
  | raiseMidTimeout u => exact ⟨_, rfl, (Steady.event (by simp [Steady])).ite⟩
  | raiseParkTimeout u => exact ⟨_, rfl, (Steady.event (by simp [Steady])).ite⟩
  | clamped n => exact ⟨_, rfl, (Steady.event (by simp [Steady])).ite⟩
  | forceLimit n => exact ⟨_, rfl, (Steady.event (by simp [Steady])).ite⟩
  | unclamped n => exact ⟨_, rfl, (Steady.event (by simp [Steady])).ite⟩
  | clampTimeout => exact ⟨_, rfl, (Steady.event (by simp [Steady])).ite⟩
  | liftTimerExpiry => exact ⟨_, rfl, (Steady.event (by simp [Steady])).ite⟩
  | unclampTimeout => exact ⟨_, rfl, (Steady.event (by simp [Steady])).ite⟩
  | joinHoldExpiry => exact ⟨_, rfl, (Steady.event (by simp [Steady])).ite⟩
  | lluSettleExpiry => exact ⟨_, rfl, CommandDone.ite (.stands (by simp) (by simp))⟩
  | valveReadback valve position => exact ⟨_, rfl, CommandDone.ite (.stands rfl rfl)⟩
  | selfTestItemExpiry => exact ⟨_, rfl, (Steady.conclude (by simp [Steady])).ite⟩
  | memoryMismatch wordRead wordWritten => exact ⟨_, rfl, (Steady.conclude (by simp [Steady])).ite⟩
  | byteReceived b => exact ⟨_, rfl, rfl, .receives b⟩

end Sys2Proof.Machine

section
open Sys2Proof Sys2Proof.Machine

/-- Settles O10: a step is one command, a command makes one move of the link, and each move keeps the bounds and the line. -/
theorem stepKeepsLinkSound : Obligations.StepKeepsLinkSound := by
  unfold Obligations.StepKeepsLinkSound
  intro s t h ht
  unfold step at ht
  split at ht
  · cases ht; exact h
  · next c rest _ =>
    obtain ⟨u, hu, -, hmoves⟩ := exec_done c { s with pending := rest }
    cases hu.symm.trans ht
    exact linkSound_iff.2 (hmoves.sound (linkSound_iff.1 h))

/-- Settles O2: every meaning answers a next state, and none of its operations touches the waiting commands. -/
theorem everyCommandAnswersANextState : Obligations.EveryCommandAnswersANextState := by
  unfold Obligations.EveryCommandAnswersANextState
  intro c s
  obtain ⟨t, ht, hpending, -⟩ := exec_done c s
  exact ⟨t, ht, hpending⟩

/-- Settles O1: `step` looks at the queue of commands alone. -/
theorem stepTakesTheFrontCommand : Obligations.StepTakesTheFrontCommand := by
  unfold Obligations.StepTakesTheFrontCommand
  refine fun s => ⟨fun c rest h => ?_, fun h => ?_⟩ <;> simp only [step, h]

end

namespace Sys2Proof.Machine

/-! ## The line's events (R176 to R178, R182) -/

/-- A byte moves the link, and the next frame begins when the line is free (R176, R182). -/
theorem exec_byteReceived {b : Byte} {s : State} {l : Link} (h : s.link.receive b = l) :
    exec (.byteReceived b) s = .next { s with link := l.begin } := h ▸ rfl

variable {l : Link} {ms : Timer} {b low : Byte} {got : List Byte} {n : Nat}

/-! ### The receiver's table, row by row (R176) -/

theorem Link.hunt_start (hb : b = 0xC3) : l.hunt b = { l with receiver := .lengthFirst, byteTimer := some 3 } := if_pos hb

theorem Link.hunt_other (hb : ¬ b = 0xC3) : l.hunt b = { l with receiver := .hunt, byteTimer := none } := if_neg hb

theorem Link.receive_hunt (hr : l.receiver = .hunt) : l.receive b = l.hunt b := by
  simp only [Link.receive, hr]

theorem Link.receive_lengthFirst (hr : l.receiver = .lengthFirst) :
    l.receive b = { l with receiver := .lengthSecond b, byteTimer := some 3 } := by
  simp only [Link.receive, hr, byteGap]

theorem Link.receive_length (hr : l.receiver = .lengthSecond low)
    (hn : 4 ≤ low.toNat + 256 * b.toNat ∧ low.toNat + 256 * b.toNat ≤ 240) :
    l.receive b = { l with receiver := .body (low.toNat + 256 * b.toNat) [], byteTimer := some 3 } := by
  simp only [Link.receive, hr, Link.lengthFormed, if_pos hn, byteGap]

/-- A length out of range is discarded, and its second byte may be the first length byte of a frame begun by its first. -/
theorem Link.receive_rescanFirst (hr : l.receiver = .lengthSecond low)
    (hn : ¬ (4 ≤ low.toNat + 256 * b.toNat ∧ low.toNat + 256 * b.toNat ≤ 240)) (hlow : low = 0xC3) :
    l.receive b = { l with receiver := .lengthSecond b, byteTimer := some 3 } := by
  simp only [Link.receive, hr, Link.lengthFormed, if_neg hn, if_pos hlow, byteGap]

/-- A length out of range is discarded, and its second byte is taken as one that arrives in HUNT. -/
theorem Link.receive_rescanSecond (hr : l.receiver = .lengthSecond low)
    (hn : ¬ (4 ≤ low.toNat + 256 * b.toNat ∧ low.toNat + 256 * b.toNat ≤ 240)) (hlow : ¬ low = 0xC3) :
    l.receive b = l.hunt b := by
  simp only [Link.receive, hr, Link.lengthFormed, if_neg hn, if_neg hlow]

theorem Link.receive_more (hr : l.receiver = .body n got) (hn : got.length + 1 < n) :
    l.receive b = { l with receiver := .body n (got ++ [b]), byteTimer := some 3 } := by
  simp only [Link.receive, hr, if_pos hn, byteGap]

theorem Link.receive_last (hr : l.receiver = .body n got) (hn : ¬ got.length + 1 < n) :
    l.receive b = { l with receiver := .checkFirst (got ++ [b]), byteTimer := some 3 } := by
  simp only [Link.receive, hr, if_neg hn, byteGap]

theorem Link.receive_checkFirst (hr : l.receiver = .checkFirst got) :
    l.receive b = { l with receiver := .checkSecond got b, byteTimer := some 3 } := by
  simp only [Link.receive, hr, byteGap]

theorem Link.receive_checkSecond (hr : l.receiver = .checkSecond got low) : l.receive b = l.judge got (wordOf low b) := by
  simp only [Link.receive, hr]

/-! ### The end of a frame (R178) -/

/-- The judgement begins with the receiver back in HUNT. -/
theorem Link.judge_bad {body : List Byte} {w : Word} (hw : w ≠ checkOf body) :
    l.judge body w = { l with receiver := .hunt, byteTimer := none } := if_neg hw

theorem Link.judge_good {body : List Byte} {w : Word} (hw : w = checkOf body) :
    l.judge body w = ({ l with receiver := .hunt, byteTimer := none } : Link).arrive (frameOfBody body) := if_pos hw

theorem Link.arrive_buffered {f : Frame} (hroom : l.input.length < 4) :
    l.arrive f = { l with input := l.input ++ [f] } := if_pos hroom

theorem Link.arrive_refused {f : Frame} (hfull : ¬ l.input.length < 4) (hroom : (l.replies.filter (·.busy)).length < 4) :
    l.arrive f = { l with replies := l.replies ++ [busyReply f] } := (if_neg hfull).trans (if_pos hroom)

theorem Link.arrive_dropped {f : Frame} (hfull : ¬ l.input.length < 4) (hnone : ¬ (l.replies.filter (·.busy)).length < 4) :
    l.arrive f = { l with dropped := min 255 (l.dropped + 1) } := (if_neg hfull).trans (if_neg hnone)

/-! ### The bytes of a frame, in the order of R174 -/

theorem wordOf_bytes (w : Word) : wordOf (lowByte w) (highByte w) = w := by
  apply BitVec.eq_of_toNat_eq
  simp only [wordOf, lowByte, highByte, BitVec.toNat_ofNat]
  omega

theorem length_bytes16 (w : Word) : (bytes16 w).length = 2 := rfl

/-- The two length bytes spell the length again (R174, R193). -/
theorem length_spelled (h : n < 65536) :
    (lowByte (BitVec.ofNat 16 n)).toNat + 256 * (highByte (BitVec.ofNat 16 n)).toNat = n := by
  simp only [lowByte, highByte, BitVec.toNat_ofNat]
  omega

/-- A length of 4 to 240 leads to BODY (R176). -/
theorem foldl_receive_length (h4 : 4 ≤ n) (h240 : n ≤ 240) :
    (nat16 n).foldl Link.receive { l with receiver := .lengthFirst, byteTimer := ms } =
      { l with receiver := .body n [], byteTimer := some 3 } := by
  have hn := length_spelled (show n < 65536 by omega)
  have hfirst : Link.receive { l with receiver := .lengthFirst, byteTimer := ms } (lowByte (BitVec.ofNat 16 n)) =
      { l with receiver := .lengthSecond (lowByte (BitVec.ofNat 16 n)), byteTimer := some 3 } := Link.receive_lengthFirst rfl
  rw [nat16, bytes16, List.foldl_cons, List.foldl_cons, List.foldl_nil, hfirst,
    Link.receive_length rfl (by rw [hn]; exact ⟨h4, h240⟩), hn]

/-- The bytes of a body are kept until it is whole, whatever they are (R176). -/
theorem foldl_receive_body {rest : List Byte} (hne : rest ≠ []) (hn : got.length + rest.length = n) :
    rest.foldl Link.receive { l with receiver := .body n got, byteTimer := ms } =
      { l with receiver := .checkFirst (got ++ rest), byteTimer := some 3 } := by
  induction rest generalizing got ms with
  | nil => exact absurd rfl hne
  | cons b rest ih =>
    simp only [List.length_cons] at hn
    rw [List.foldl_cons]
    cases rest with
    | nil => exact Link.receive_last rfl (by simp at hn; omega)
    | cons c rest =>
      simp only [List.length_cons] at hn
      rw [Link.receive_more rfl (by omega), ih (by simp) (by simp; omega)]
      simp

/-- The two check bytes lead to the judgement of the frame (R176, R178). -/
theorem foldl_receive_check (body : List Byte) (w : Word) :
    (bytes16 w).foldl Link.receive { l with receiver := .checkFirst body, byteTimer := ms } = l.judge body w := by
  have hfirst : Link.receive { l with receiver := .checkFirst body, byteTimer := ms } (lowByte w) =
      { l with receiver := .checkSecond body (lowByte w), byteTimer := some 3 } := Link.receive_checkFirst rfl
  rw [bytes16, List.foldl_cons, List.foldl_cons, List.foldl_nil, hfirst, Link.receive_checkSecond rfl, wordOf_bytes]
  rfl

/-- The receiver hunting takes a frame's bytes to the judgement of its body and check (R174, R176). -/
theorem foldl_receive_frameOf {body : List Byte} (hl : l.receiver = .hunt) (h4 : 4 ≤ body.length) (h240 : body.length ≤ 240) :
    (frameOf body).foldl Link.receive l = l.judge body (checkOf body) := by
  have hne : body ≠ [] := List.ne_nil_of_length_pos (by omega)
  rw [frameOf, List.foldl_append, List.foldl_append, List.foldl_append, List.foldl_cons, List.foldl_nil, Link.receive_hunt hl,
    Link.hunt_start rfl, foldl_receive_length h4 h240, foldl_receive_body hne (by simp), foldl_receive_check, List.nil_append]

/-- Kind, tag and the rest stand in a body as R174 lays them out. -/
theorem frameOfBody_bytes (kind tag : Word) (rest : List Byte) :
    frameOfBody (bytes16 kind ++ bytes16 tag ++ rest) = ⟨kind, tag, rest⟩ := by
  simp [frameOfBody, bytes16, wordOf_bytes]

/-! ### The end of a frame sent (R182) -/

theorem Link.restartDue_iff : l.restartDue = true ↔ l.restartPending = true ∧ ∀ r ∈ l.replies, r.busy = true := by
  simp [Link.restartDue, Link.owesReply]

theorem Link.begin_due (hd : l.restartDue = true) : l.begin = l := by
  simp [Link.begin, hd]

theorem Link.begin_reply {r : Reply} {rest : List Reply} (hfree : l.line = none) (hd : ¬ l.restartDue = true)
    (hr : l.replies = r :: rest) :
    l.begin = { l with line := some ⟨true, frameOf r.body⟩ } := by
  simp [Link.begin, hfree, hd, hr]

/-- With neither a reply nor a report waiting nothing begins. -/
theorem Link.begin_nothing (hr : l.replies = []) (hp : l.reports = []) : l.begin = l := by
  simp [Link.begin, hr, hp]

/-- A report waits for the frame that may be taken (log entry 5). -/
theorem Link.begin_waits (hr : l.replies = []) (hi : l.input ≠ []) : l.begin = l := by
  simp [Link.begin, hr, hi]

/-- With no reply in the list a pending restart is due, so without one no restart is pending. -/
theorem Link.begin_report {p : Report} {rest : List Report} (hfree : l.line = none) (hd : ¬ l.restartDue = true)
    (hr : l.replies = []) (hi : l.input = []) (hp : l.reports = p :: rest) :
    l.begin = { l with line := some ⟨false, frameOf (p.body l.lost)⟩, reports := rest, lost := false } := by
  have hpending : l.restartPending = false := by
    by_contra hpend
    exact hd (Link.restartDue_iff.2 ⟨by simpa using hpend, by simp [hr]⟩)
  simp [Link.begin, hfree, hd, hr, hi, hp, hpending]

end Sys2Proof.Machine

section
open Sys2Proof Sys2Proof.Machine

/-- Settles O9: the bytes lead the receiver to the judgement of the body, which finds the check good and the buffer with room. -/
theorem sentFrameIsReceived : Obligations.SentFrameIsReceived := by
  unfold Obligations.SentFrameIsReceived
  intro kind tag rest l hrest hhunt hroom
  have hlength : (bytes16 kind ++ bytes16 tag ++ rest).length = 4 + rest.length := by simp [length_bytes16]; omega
  rw [foldl_receive_frameOf hhunt (by omega) (by omega), Link.judge_good rfl, ← frameOfBody_bytes kind tag rest]
  exact Link.arrive_buffered hroom

/-- Settles O5: the receiver's states one by one, as the table of R176 lists them. -/
theorem bytesMoveTheReceiver : Obligations.BytesMoveTheReceiver := by
  unfold Obligations.BytesMoveTheReceiver
  intro b s hsound hbefore
  obtain ⟨-, hshape⟩ := hsound
  cases hr : s.link.receiver with
  | hunt =>
    by_cases hb : b = 0xC3
    · exact ⟨_, _, exec_byteReceived ((Link.receive_hunt hr).trans (Link.hunt_start hb)), by simp only [if_pos hb, and_self]⟩
    · exact ⟨_, _, exec_byteReceived ((Link.receive_hunt hr).trans (Link.hunt_other hb)), by simp only [if_neg hb, and_self]⟩
  | lengthFirst => exact ⟨_, _, exec_byteReceived (Link.receive_lengthFirst hr), rfl, rfl⟩
  | lengthSecond low =>
    by_cases hn : 4 ≤ low.toNat + 256 * b.toNat ∧ low.toNat + 256 * b.toNat ≤ 240
    · exact ⟨_, _, exec_byteReceived (Link.receive_length hr hn), by simp only [if_pos hn, and_self]⟩
    · by_cases hlow : low = 0xC3
      · exact ⟨_, _, exec_byteReceived (Link.receive_rescanFirst hr hn hlow), by simp only [if_neg hn, if_pos hlow, and_self]⟩
      · have hrescan := Link.receive_rescanSecond hr hn hlow
        by_cases hb : b = 0xC3
        · exact ⟨_, _, exec_byteReceived (hrescan.trans (Link.hunt_start hb)),
            by simp only [if_neg hn, if_neg hlow, if_pos hb, and_self]⟩
        · exact ⟨_, _, exec_byteReceived (hrescan.trans (Link.hunt_other hb)),
            by simp only [if_neg hn, if_neg hlow, if_neg hb, and_self]⟩
  | body n got =>
    simp only [hr] at hshape
    obtain ⟨-, -, hshort⟩ := hshape
    by_cases hwhole : got.length + 1 = n
    · exact ⟨_, _, exec_byteReceived (Link.receive_last hr (by omega)), by simp only [if_pos hwhole, and_self]⟩
    · exact ⟨_, _, exec_byteReceived (Link.receive_more hr (by omega)), by simp only [if_neg hwhole, and_self]⟩
  | checkFirst got => exact ⟨_, _, exec_byteReceived (Link.receive_checkFirst hr), rfl, rfl⟩
  | checkSecond got low => exact absurd hr (hbefore got low)

/-- Settles O6: both names of the byte lead to the same judgement, whose four outcomes are told apart by the check, the room of the
buffer and the room among the busy refusals. -/
theorem frameEndJudgesTheCheck : Obligations.FrameEndJudgesTheCheck := by
  unfold Obligations.FrameEndJudgesTheCheck
  intro b low got s hr
  have hend : s.link.receiver.endsNext = true := by rw [hr]; rfl
  have hframe : exec (.frameReceived b) s = exec (.byteReceived b) s := congrArg Host.Outcome.next (if_pos hend)
  have hexec {l : Link} (hl : s.link.judge got (wordOf low b) = l) :
      exec (.frameReceived b) s = .next { s with link := l.begin } ∧
      exec (.byteReceived b) s = .next { s with link := l.begin } := by
    rw [hframe, and_self]
    exact exec_byteReceived ((Link.receive_checkSecond hr).trans hl)
  by_cases hw : wordOf low b = checkOf got
  · by_cases hroom : s.link.input.length < 4
    · obtain ⟨hf, hb⟩ := hexec ((Link.judge_good hw).trans (Link.arrive_buffered hroom))
      refine ⟨_, hf, hb, rfl, rfl, rfl, ?_⟩
      rw [if_neg (not_not.2 hw), if_pos hroom]
      exact ⟨rfl, rfl, rfl⟩
    · by_cases hbusy : (s.link.replies.filter (·.busy)).length < 4
      · obtain ⟨hf, hb⟩ := hexec ((Link.judge_good hw).trans (Link.arrive_refused hroom hbusy))
        refine ⟨_, hf, hb, rfl, rfl, rfl, ?_⟩
        rw [if_neg (not_not.2 hw), if_neg hroom, if_pos hbusy]
        exact ⟨rfl, rfl, rfl⟩
      · obtain ⟨hf, hb⟩ := hexec ((Link.judge_good hw).trans (Link.arrive_dropped hroom hbusy))
        refine ⟨_, hf, hb, rfl, rfl, rfl, ?_⟩
        rw [if_neg (not_not.2 hw), if_neg hroom, if_neg hbusy]
        exact ⟨rfl, rfl, rfl⟩
  · obtain ⟨hf, hb⟩ := hexec (Link.judge_bad hw)
    refine ⟨_, hf, hb, rfl, rfl, rfl, ?_⟩
    rw [if_pos hw]
    exact ⟨rfl, rfl, rfl⟩

/-- Settles O7: a timer that runs is stopped with the receiver set to HUNT, and one that does not is no event. -/
theorem gapDiscardsTheFrame : Obligations.GapDiscardsTheFrame := by
  unfold Obligations.GapDiscardsTheFrame
  have hexec (s : State) : exec .interByteTimeout s = .next (s.setLink s.link.gapExpired) := rfl
  refine fun s => ⟨fun hruns => ?_, fun hstopped => ?_⟩
  · rw [hexec, Link.gapExpired, if_pos (Option.isSome_iff_ne_none.2 hruns)]
    rfl
  · rw [hexec, Link.gapExpired, if_neg (by simp [hstopped])]
    rfl

/-- Settles O8: with the line free again, what begins is decided by the restart, the oldest reply, the input buffer and the oldest
report, in this order. -/
theorem frameSentBeginsTheNext : Obligations.FrameSentBeginsTheNext := by
  unfold Obligations.FrameSentBeginsTheNext
  intro f s hline
  obtain ⟨m, hm⟩ : ∃ m : Link, m = { s.link with
      line := none, replies := if f.isReply then s.link.replies.drop 1 else s.link.replies } := ⟨_, rfl⟩
  have hsent : s.link.sent = m := by rw [Link.sent, hline, hm]
  have hexec {l : Link} (hl : m.begin = l) : exec .frameSent s = .next { s with link := l } := by
    rw [← hl, ← hsent]
    rfl
  obtain ⟨hfree, hreplies, hreports, hinput, hlost⟩ : m.line = none ∧
      m.replies = (if f.isReply then s.link.replies.drop 1 else s.link.replies) ∧ m.reports = s.link.reports ∧
      m.input = s.link.input ∧ m.lost = s.link.lost := by
    rw [hm]
    exact ⟨rfl, rfl, rfl, rfl, rfl⟩
  have hdue : m.restartDue = true ↔ s.link.restartPending = true ∧ ∀ r ∈ m.replies, r.busy = true := by
    rw [Link.restartDue_iff, hm]
  have hlink : m = { s.link with line := m.line, replies := m.replies, reports := m.reports, lost := m.lost } := by rw [hm]
  by_cases hd : m.restartDue = true
  · refine ⟨m, hexec (Link.begin_due hd), hlink, hreplies, ?_⟩
    rw [if_pos (hdue.1 hd)]
    exact ⟨hfree, hreports, hlost⟩
  · have hnot := fun h => hd (hdue.2 h)
    cases hr : m.replies with
    | cons r rest =>
      refine ⟨_, hexec (Link.begin_reply hfree hd hr), by rw [hm], hreplies, ?_⟩
      dsimp only
      rw [if_neg hnot, hr]
      exact ⟨rfl, hreports, hlost⟩
    | nil =>
      cases hp : s.link.reports with
      | nil =>
        refine ⟨m, hexec (Link.begin_nothing hr (hreports.trans hp)), hlink, hreplies, ?_⟩
        rw [if_neg hnot, hr]
        exact ⟨hfree, hreports.trans hp, hlost⟩
      | cons p rest =>
        by_cases hi : s.link.input = []
        · refine ⟨_, hexec (Link.begin_report hfree hd hr (hinput.trans hi) (hreports.trans hp)), by rw [hm], hreplies, ?_⟩
          dsimp only
          rw [if_neg hnot, hr]
          simp only [hlost, if_pos hi, and_self]
        · refine ⟨m, hexec (Link.begin_waits hr (hinput.symm ▸ hi)), hlink, hreplies, ?_⟩
          rw [if_neg hnot, hr]
          simp only [if_neg hi]
          exact ⟨hfree, hreports.trans hp, hlost⟩

end

namespace Sys2Proof.Machine

/-! ## The general tests of a request (R180, R194) -/

/-- A body without a field of its own (R194). -/
theorem noFields_iff {body : List Byte} : noFields body = true ↔ body.length = 0 := List.isEmpty_iff_length_eq_zero

/-- The command is the take of `f` with the general tests that its kind calls for: its body's form, and whether it may be performed
while a test runs (R180). -/
def TakesRequest (c : Instr) (f : Frame) : Prop :=
  ∃ (fits reading : Bool) (owner : State → State × Answer), (∀ s, exec c s = .next (takeRequest f fits reading owner s)) ∧
    (fits = true ↔ FitsKind f) ∧ (reading = true ↔ ReadingKind f.kind) ∧ 1 ≤ f.kind.toNat ∧ f.kind.toNat ≤ 23

/-- A request whose kind has `n` bytes of its own, and no optional field (R194). -/
theorem takesRequest_fixed {c : Instr} {kind tag : Word} {body : List Byte} {n : Nat} {fits reading : Bool}
    {owner : State → State × Answer} (he : ∀ s, exec c s = .next (takeRequest ⟨kind, tag, body⟩ fits reading owner s))
    (hfits : fits = true ↔ body.length = n)
    (hk : kind ≠ 0x0005 ∧ kind ≠ 0x0003 ∧ fixedLength kind.toNat = some (4 + n) ∧ 1 ≤ kind.toNat ∧ kind.toNat ≤ 23)
    (hr : reading = true ↔ ReadingKind kind) : TakesRequest c ⟨kind, tag, body⟩ := by
  obtain ⟨h5, h3, hn, hlow, hhigh⟩ := hk
  refine ⟨_, _, _, he, ?_, hr, hlow, hhigh⟩
  rw [FitsKind, if_neg h5, if_neg h3, hn, Option.some_inj, Nat.add_left_cancel_iff, hfits]
  exact eq_comm

/-- Each of the 23 request commands is such a take (R194). -/
theorem exec_takesRequest {c : Instr} {f : Frame} (hf : requestFrame c = some f) (hc : ∀ k g b, c ≠ .unknownKindRequest k g b) :
    TakesRequest c f := by
  cases c with
  | identify tag body => cases hf; exact takesRequest_fixed (fun _ => rfl) noFields_iff (by decide) (by simp [ReadingKind])
  | readStatus tag body => cases hf; exact takesRequest_fixed (fun _ => rfl) noFields_iff (by decide) (by simp [ReadingKind])
  | setParameters tag body => cases hf; exact ⟨_, _, _, fun _ => rfl, by simp [FitsKind], by simp [ReadingKind], by simp, by simp⟩
  | readParameters tag body => cases hf; exact takesRequest_fixed (fun _ => rfl) noFields_iff (by decide) (by simp [ReadingKind])
  | loadEntry tag body => cases hf; exact ⟨_, _, _, fun _ => rfl, by simp [FitsKind], by simp [ReadingKind], by simp, by simp⟩
  | collectResults tag body => cases hf; exact takesRequest_fixed (fun _ => rfl) noFields_iff (by decide) (by simp [ReadingKind])
  | readQueue tag body => cases hf; exact takesRequest_fixed (fun _ => rfl) noFields_iff (by decide) (by simp [ReadingKind])
  | clearQueue tag body => cases hf; exact takesRequest_fixed (fun _ => rfl) noFields_iff (by decide) (by simp [ReadingKind])
  | startJob tag body => cases hf; exact takesRequest_fixed (fun _ => rfl) noFields_iff (by decide) (by simp [ReadingKind])
  | pauseJob tag body => cases hf; exact takesRequest_fixed (fun _ => rfl) noFields_iff (by decide) (by simp [ReadingKind])
  | resumeJob tag body => cases hf; exact takesRequest_fixed (fun _ => rfl) noFields_iff (by decide) (by simp [ReadingKind])
  | retryEntry tag body => cases hf; exact takesRequest_fixed (fun _ => rfl) noFields_iff (by decide) (by simp [ReadingKind])
  | skipEntry tag body => cases hf; exact takesRequest_fixed (fun _ => rfl) noFields_iff (by decide) (by simp [ReadingKind])
  | abortJob tag body => cases hf; exact takesRequest_fixed (fun _ => rfl) noFields_iff (by decide) (by simp [ReadingKind])
  | parkAll tag body => cases hf; exact takesRequest_fixed (fun _ => rfl) noFields_iff (by decide) (by simp [ReadingKind])
  | openTable tag body => cases hf; exact takesRequest_fixed (fun _ => rfl) beq_iff_eq (by decide) (by simp [ReadingKind])
  | tableSegment tag body => cases hf; exact takesRequest_fixed (fun _ => rfl) beq_iff_eq (by decide) (by simp [ReadingKind])
  | closeTable tag body => cases hf; exact takesRequest_fixed (fun _ => rfl) noFields_iff (by decide) (by simp [ReadingKind])
  | readTable tag body => cases hf; exact takesRequest_fixed (fun _ => rfl) beq_iff_eq (by decide) (by simp [ReadingKind])
  | readMeasurement tag body => cases hf; exact takesRequest_fixed (fun _ => rfl) noFields_iff (by decide) (by simp [ReadingKind])
  | readTrail tag body => cases hf; exact takesRequest_fixed (fun _ => rfl) beq_iff_eq (by decide) (by simp [ReadingKind])
  | selfTest tag body => cases hf; exact takesRequest_fixed (fun _ => rfl) beq_iff_eq (by decide) (by simp [ReadingKind])
  | restart tag body => cases hf; exact takesRequest_fixed (fun _ => rfl) noFields_iff (by decide) (by simp [ReadingKind])
  | unknownKindRequest kind tag body => exact absurd rfl (hc kind tag body)
  | _ => cases hf

/-- The take of a frame of unknown kind (R180). -/
theorem exec_unknown {kind tag : Word} {body : List Byte} {s : State} (hk : kind.toNat = 0 ∨ 23 < kind.toNat)
    (h : Takeable s ⟨kind, tag, body⟩) : exec (.unknownKindRequest kind tag body) s =
      .next (answer ⟨kind, tag, body⟩ (refuse kind .badKind kind.toNat) (s.setLink s.link.taken)) := by
  have hunknown : knownKind kind = false := by
    rw [knownKind, Bool.and_eq_false_iff, decide_eq_false_iff_not, decide_eq_false_iff_not]
    omega
  exact congrArg Host.Outcome.next (if_pos (by simp [hunknown, mayTake_of_takeable h]))

/-- A frame of unknown kind that may not be taken waits (R179). -/
theorem exec_unknown_waits {kind tag : Word} {body : List Byte} {s : State} (h : ¬ Takeable s ⟨kind, tag, body⟩) :
    exec (.unknownKindRequest kind tag body) s = .next s :=
  congrArg Host.Outcome.next (if_neg (by simp [mayTake_iff, h]))

/-- A frame refused by a general test leaves all but the link as it was (R180). -/
theorem refused_answered {c : Instr} {f : Frame} {a : Answer} {s : State}
    (he : exec c s = .next (answer f a (s.setLink s.link.taken))) :
    ∃ t, exec c s = .next t ∧ t = { s with link := t.link } ∧ Answered s t f a [] :=
  ⟨_, he, rfl, answer_answered rfl⟩

end Sys2Proof.Machine

section
open Sys2Proof Sys2Proof.Machine

/-- Settles O11: the kind splits the requests into the 23 known ones, whose take makes tests 2 and 3, and the unknown ones, which
test 1 refuses. -/
theorem generalTestsJudgeEveryRequest : Obligations.GeneralTestsJudgeEveryRequest := by
  unfold Obligations.GeneralTestsJudgeEveryRequest
  intro c f s hf
  by_cases hc : ∀ k g b, c ≠ .unknownKindRequest k g b
  · obtain ⟨fits, reading, owner, hexec, hfits, hreading, hlow, hhigh⟩ := exec_takesRequest hf hc
    refine ⟨fun h => ?_, fun _ hk => ?_, fun h _ _ _ hbad => ?_, fun h _ _ _ hgood ht hchanges => ?_⟩
    · rw [hexec, takeRequest_waits h]
    · omega
    · obtain rfl : fits = false := by rwa [← hfits, Bool.not_eq_true] at hbad
      exact refused_answered ((hexec s).trans (congrArg _ (takeRequest_badLength h)))
    · obtain rfl : fits = true := hfits.2 hgood
      obtain rfl : reading = false := by rwa [← hreading, Bool.not_eq_true] at hchanges
      exact refused_answered ((hexec s).trans (congrArg _ (takeRequest_testRunning h ht)))
  · push Not at hc
    obtain ⟨kind, tag, body, rfl⟩ := hc
    cases hf
    exact ⟨exec_unknown_waits, fun h hk => refused_answered (exec_unknown hk h), fun _ _ _ hc => absurd rfl (hc kind tag body),
      fun _ _ _ hc => absurd rfl (hc kind tag body)⟩

end

namespace Sys2Proof.Machine

/-! ## The restart of the workhead (R120, R144, R162, R186) -/

/-- A unit after RESTART: emptied, and in a motion state waiting for its grant with its order cancelled (R120). -/
def TUnit.restarted (x : TUnit) : TUnit :=
  { x with
    settings := none, workOrdered := false, frozen := false, result := ⟨false, 0, 0, false, false, false⟩
    waiting := x.waiting || x.state.motion
    order := if x.state.motion then none else x.order
    timer := if x.state.motion then none else x.timer }

/-- The CANCEL that RESTART makes a unit send (R120). -/
def TUnit.restartOrders (u : UnitId) (x : TUnit) : List FieldOrder :=
  match x.state.motion, x.order with
  | true, some (_, n) => [.unitCancel u n]
  | _, _ => []

theorem restartUnit_step (u : UnitId) (s : State) :
    restartUnit u s = s.unitStep u (s.unit u).restarted
      (if (s.unit u).state.motion then s.arb.request (.unit u) else s.arb) ((s.unit u).restartOrders u) := by
  unfold restartUnit TUnit.restarted TUnit.restartOrders
  cases hm : (s.unit u).state.motion
  · simp [changeUnit_step, UnitResult.empty]
  · cases ho : (s.unit u).order <;>
      simp [changeUnit_step, cancelUnit_step, enterMotion_step, TUnit.asks, TUnit.ended, TUnit.cancels, UnitResult.empty, ho]

/-- RESTART as the four units take it, in one change of the state (R120). -/
theorem restartUnits_eq (s : State) : restartUnits s = { s with
    units := s.units.map TUnit.restarted
    arb := (UnitId.all.filter fun u => (s.unit u).state.motion).foldl (fun a u => a.request (.unit u)) s.arb
    field := { s.field with sent := s.field.sent ++ UnitId.all.flatMap fun u => (s.unit u).restartOrders u } } := by
  have hstep := four_units (step := restartUnit) (f := fun _ x => x.restarted) (s := s)
    (g := fun u x a => if x.state.motion then a.request (.unit u) else a) (o := fun u x => x.restartOrders u)
    fun u t _ _ => restartUnit_step u t
  rw [restartUnits, hstep, List.foldl_filter]
  rfl

/-- The LLU after RESTART: emptied, and in RELEASING waiting for its grant with its UNCLAMP cancelled (R144). -/
def Llu.restarted (x : Llu) : Llu :=
  { x with
    demands := none, baseline := none, achieved := none, reached := false, liftShort := false, lineForce := false
    waiting := x.waiting || decide (x.state = LluState.releasing)
    order := if x.state = .releasing then none else x.order
    timer := if x.state = .releasing then none else x.timer }

/-- The CANCEL that RESTART makes the LLU send (R144). -/
def Llu.restartOrders (x : Llu) : List FieldOrder :=
  match x.state, x.order with
  | .releasing, some (_, n) => [.lluCancel n]
  | _, _ => []

theorem restartLlu_step (s : State) :
    restartLlu s = s.lluStep s.llu.restarted (if s.llu.state = .releasing then s.arb.request .llu else s.arb) s.llu.restartOrders := by
  unfold restartLlu Llu.restarted Llu.restartOrders
  by_cases hr : s.llu.state = .releasing
  · cases ho : s.llu.order <;>
      simp [hr, ho, changeLlu_step, cancelLlu_step, arbiter, State.setArb, State.lluStep, Llu.ended, Llu.cancels]
  · simp [hr, changeLlu_step]

/-- The requests that RESTART places again, the units' before the LLU's (R186, log entry 6). -/
def State.restartRequests (s : State) : List Requester :=
  (UnitId.all.filter fun u => (s.unit u).state.motion).map Requester.unit ++ (if s.llu.state = .releasing then [Requester.llu] else [])

/-- The restart as the blocks other than the link take it, in one change of the state (R186). -/
theorem restartBlocks_eq (s : State) : restartBlocks s = { s with
    queue := .cleared, job := { Job.atPowerOn with endReason := .restart }, engine := .noRecord
    table := s.table.restarted, meas := .initial, trail := ⟨[], 0⟩, travel := { Travel.initial with drive := s.travel.drive }
    units := s.units.map TUnit.restarted, llu := s.llu.restarted, test := .idle
    arb := s.restartRequests.foldl (fun a r => a.request r) (s.arb.restarted s.params.grantSlots)
    field := { s.field with
      sent := s.field.sent ++ (UnitId.all.flatMap fun u => (s.unit u).restartOrders u) ++ s.llu.restartOrders } } := by
  rw [restartBlocks, restartUnits_eq, restartLlu_step, State.restartRequests, List.foldl_append, List.foldl_map]
  by_cases hr : s.llu.state = .releasing
  · simp only [hr, if_true]
    rfl
  · simp only [hr, if_false]
    rfl

/-- A command that ends with the Positioner IDLE leaves the drive at STOP, the order sent if it is a change (R104, R105). -/
theorem conclude_idle {s : State} (h : s.travel.state = .idle) : conclude s = { s with
    travel := { s.travel with drive := .stop }, link := s.link.begin
    field := { s.field with sent := s.field.sent ++ s.stopOrders } } := by
  rw [conclude, issueDrive_eq, driveDue_idle h]
  rfl

/-- RESTART in IDLE is accepted, and marks the link alone (R185). -/
theorem restartOwner_accepted {s : State} (h : s.job.state = .idle) :
    restartOwner s = (s.setLink { s.link with restartPending := true }, .accepted) := if_neg (not_not.2 h)

theorem exec_restartEffect {s : State} (h : s.link.restartDue = true) :
    exec .restartEffect s = .next (conclude (reportJob (restartBlocks (s.setLink s.link.restarted)))) :=
  congrArg Host.Outcome.next (if_pos h)

end Sys2Proof.Machine

section
open Sys2Proof Sys2Proof.Machine

/-- Settles O60: the restart is one change of every block, after which the IDLE Positioner stops the drive and the one report of the
emptied link begins when the line is free. -/
theorem restartKeepsTheMachine : Obligations.RestartKeepsTheMachine := by
  unfold Obligations.RestartKeepsTheMachine
  refine ⟨fun tag s h ht hj => ?_, fun s hp hr => ?_⟩
  · exact ⟨_, request_taken rfl h ht (restartOwner_accepted (s := s.setLink s.link.taken) hj) rfl, rfl, answer_answered rfl⟩
  · have hexec := exec_restartEffect (Link.restartDue_iff.2 ⟨hp, hr⟩)
    rw [restartBlocks_eq, conclude_idle rfl] at hexec
    exact ⟨_, hexec, rfl, rfl, rfl, rfl, rfl, initialChannel_eq, rfl, rfl, rfl, rfl, rfl, rfl, fun _ => Quad.get_map .., rfl, rfl, rfl,
      rfl⟩

end

namespace Sys2Proof.Machine

/-! ## The self-test (R187 to R190) -/

/-! ### The items of a run -/

/-- The run a SELF TEST names, picked from the full run in its order (R187). -/
theorem runItems_eq_filter (g i : Nat) : runItems g i =
    testItems.filter (fun x => (g == 0 && i == 0) || (x.1 == g && (i == 0 || x.2 == i))) := by
  match g with
  | 0 =>
    by_cases hi : i = 0
    · subst hi
      rfl
    · simp [runItems, testItems, hi]
  | 1 | 2 | 3 =>
    by_cases hi : i = 0
    · subst hi
      rfl
    · simp [runItems, groupItems, testItems, hi, List.filter_cons]
  | n + 4 =>
    have hgroup : ∀ x ∈ testItems, x.1 < 4 := by decide
    have hempty : testItems.filter (fun x => x.1 == n + 4 && (i == 0 || x.2 == i)) = [] :=
      List.filter_eq_nil_iff.2 fun x hx => by simp [Nat.ne_of_lt (Nat.lt_of_lt_of_le (hgroup x hx) (Nat.le_add_left 4 n))]
    simpa [runItems, groupItems] using hempty.symm

/-- Group 3 has an item for each of the two memories (R190). -/
theorem memoryItem_of_mem {gi : Nat × Nat} (h : gi ∈ testItems) (h3 : gi.1 = 3) : gi = (3, 1) ∨ gi = (3, 2) := by
  have hall : ∀ x ∈ testItems, x.1 = 3 → x = (3, 1) ∨ x = (3, 2) := by decide
  exact hall gi h h3

theorem itemTime_eq (group : Nat) : itemTime group = if group = 1 then 400 else if group = 2 then 100 else 800 := by
  unfold itemTime
  split <;> simp_all

/-! ### The start of an item -/

/-- An item starts, in one change of the state: only its own group's effect is there (R188, R189, R190). -/
theorem startItem_eq {gi : Nat × Nat} (h : gi ∈ testItems) (rest : List (Nat × Nat)) (s : State) : startItem gi rest s = { s with
    test := { s.test with item := gi, rest := rest, timer := some (itemTime gi.1), readback := none, seenGood := false }
    queue := if gi = (3, 1) then ⟨0, []⟩ else s.queue
    table := if gi = (3, 2) then ⟨.empty, none, [], 0⟩ else s.table
    field := { s.field with sent := s.field.sent ++ (if gi.1 = 1 then [.valveTest (valveOf gi.2) 600] else []) } } := by
  by_cases h3 : gi.1 = 3
  · rcases memoryItem_of_mem h h3 with rfl | rfl <;> simp [startItem, destroyMemory, State.setTest, State.setQueue, State.setTable,
      WorkQueue.cleared, DesignTable.empty]
  · have hne (i : Nat) : gi ≠ (3, i) := fun he => h3 (congrArg Prod.fst he)
    by_cases h1 : gi.1 = 1 <;> simp [startItem, h1, h3, hne, send, State.setTest, State.setField, testDrive]

/-- SELF TEST in IDLE with everything at park starts the first item of its run (R187). -/
theorem selfTestOwner_starts {g i : Byte} {first : Nat × Nat} {rest : List (Nat × Nat)} {s : State} (hs : s.job.state = .idle)
    (hp : AtPark s) (hr : runItems g.toNat i.toNat = first :: rest) :
    selfTestOwner [g, i] s =
      (startItem first rest
        (s.setTest { s.test with running := true, requested := (g.toNat, i.toNat), passed := 0, failure := none }),
       .testStarted (rest.length + 1)) := by
  have hr' : runItems (byteAt [g, i] 4) (byteAt [g, i] 5) = first :: rest := hr
  simp only [selfTestOwner, hs, ne_eq, not_true, if_false, hr', notParked_none hp]
  rfl

/-! ### What the item under test hears -/

theorem SelfTest.inGroup_iff {x : SelfTest} {group : Nat} :
    x.inGroup group = true ↔ x.running = true ∧ x.item.1 = group ∧ x.timer.isSome = true := by
  simp [SelfTest.inGroup, and_assoc]

/-- A read-back counts when it names the valve under test (R189). -/
theorem exec_valveReadback {s : State} (h : s.test.inGroup 1 = true) (valve : Valve) (position : Nat) :
    exec (.valveReadback valve position) s =
      .next (if valve = valveOf s.test.item.2 then { s with test := { s.test with readback := some position } } else s) := by
  have hexec : exec (.valveReadback valve position) s = .next (if s.test.inGroup 1 ∧ valve = valveOf s.test.item.2 then
      { s with test := { s.test with readback := some position } } else s) := rfl
  rw [hexec]
  simp only [h, true_and]

theorem testChannel_of_mem {i : Nat} {ch : Channel} (h : (i, ch) ∈ testChannels) : testChannel i = ch := by
  have hall : ∀ x ∈ testChannels, testChannel x.1 = x.2 := by decide
  exact hall _ h

/-- A channel is VALID with a held count of 0 after a sample just when its value in the sample is good (R86, R189). -/
theorem ChannelRec.take_seesGood (x : ChannelRec) (c : Channel) (r : Reading) :
    ((x.take c r).state == .valid && (x.take c r).held == 0) = goodReading c r := by
  cases hg : goodReading c r with
  | true => rw [ChannelRec.take_good hg]; rfl
  | false =>
    unfold ChannelRec.take
    rw [hg]
    cases hst : x.state with
    | held => by_cases hh : x.held < 5 <;> simp [hh]
    | valid | lost => simp [hst]

/-- A sample that the LLU does not take is counted by the sensor item under test (R88, R189). -/
theorem takeSampleStep_tested {s : State} {ch : Channel} (ht : s.test.inGroup 2 = true) (hch : (s.test.item.2, ch) ∈ testChannels)
    (hc : s.llu.state ≠ .clamping) (hl : s.llu.state ≠ .lifting) (hs : s.llu.state ≠ .settling) (hnr : NoRetreat s)
    (hd : DriveSound s) (sample : Channels Reading) : takeSampleStep sample s = { s with
      meas := ⟨takeSample s.meas.channels sample, some 20⟩, link := s.link.begin
      test := { s.test with seenGood := s.test.seenGood || goodReading ch (sample.get ch) } } := by
  obtain ⟨w, hw⟩ : ∃ w, w = updateChannels sample s := ⟨_, rfl⟩
  have htest : testSample w = w.setTest { s.test with seenGood := s.test.seenGood || goodReading ch (sample.get ch) } := by
    have hseen := ChannelRec.take_seesGood (s.meas.channels.get ch) ch (sample.get ch)
    rw [← takeSample_get] at hseen
    rw [← hseen, ← testChannel_of_mem hch, hw]
    exact if_pos ht
  have hstep : takeSampleStep sample s = conclude (testSample w) := by
    rw [takeSampleStep, ← hw, lluSample_unheard (hw ▸ hc) (hw ▸ hl) (hw ▸ hs), htest, followRetreat_eq (hw ▸ hnr)]
  rw [hstep, htest, conclude, issueDrive_of_sound (hw ▸ hd), hw]
  rfl

/-! ### The judgement of an item and the end of a test -/

theorem SelfTest.Passes.verdict {x : SelfTest} (h : x.Passes) : x.verdict = none := by
  rcases h with ⟨h1, p, hp, hlow, hhigh⟩ | ⟨h2, hgood⟩ | h3
  · simp [SelfTest.verdict, h1, hp, hlow, hhigh]
  · simp [SelfTest.verdict, h2, hgood]
  · simp [SelfTest.verdict, h3]

theorem SelfTest.Fails.verdict {x : SelfTest} {f : FailureRecord} (h : x.Fails f) : x.verdict = some f := by
  rcases h with ⟨h1, ⟨hnone, rfl⟩ | ⟨p, hp, hout, rfl⟩⟩ | ⟨h2, hbad, rfl⟩
  · simp [SelfTest.verdict, SelfTest.failed, h1, hnone]
  · simp only [SelfTest.verdict, SelfTest.failed, h1, hp, if_true, if_neg hout]
  · simp [SelfTest.verdict, SelfTest.failed, h2, hbad]

/-- The item under test has ended: its valve, if it drives one, is sent to rest (R189). -/
def State.itemRested (s : State) : State := { s with field := { s.field with sent := s.field.sent ++ s.test.restOrders } }

/-- The item under test has ended with a pass (R188). -/
def State.itemPassed (s : State) : State := { s.itemRested with test := { s.test with passed := s.test.passed + 1 } }

theorem restValve_eq (s : State) : restValve s = s.itemRested := by
  by_cases h : s.test.item.1 = 1 <;> simp [restValve, State.itemRested, SelfTest.restOrders, h, send, State.setField]

/-- An item that passes leads to the next item of the run (R188). -/
theorem judgeItem_next {s : State} {gi : Nat × Nat} {rest : List (Nat × Nat)} (h : s.test.Passes) (hr : s.test.rest = gi :: rest) :
    judgeItem s = startItem gi rest s.itemPassed := by
  simp only [judgeItem, restValve_eq, h.verdict, State.itemPassed, State.itemRested, State.setTest, hr]

/-- The last item's pass ends the test (R188). -/
theorem judgeItem_last {s : State} (h : s.test.Passes) (hr : s.test.rest = []) : judgeItem s = endTest none s.itemPassed := by
  simp only [judgeItem, restValve_eq, h.verdict, State.itemPassed, State.itemRested, State.setTest, hr]

/-- An item that fails ends the test (R188). -/
theorem judgeItem_fails {s : State} {f : FailureRecord} (h : s.test.Fails f) : judgeItem s = endTest (some f) s.itemRested := by
  rw [judgeItem, restValve_eq, h.verdict]

/-- The drive is the one due already, so a command ends with the next frame alone (R104, R182). -/
theorem conclude_of_sound {s : State} (h : DriveSound s) : conclude s = { s with link := s.link.begin } := by
  rw [conclude, issueDrive_of_sound h]
  rfl

/-- The expiry judges the item and does not reach the drive (R188). -/
theorem exec_selfTestItemExpiry {s : State} (hr : s.test.running = true) (ht : s.test.timer.isSome = true) (hd : DriveSound s) :
    exec .selfTestItemExpiry s = .next { judgeItem s with link := (judgeItem s).link.begin } := by
  have hexec : exec .selfTestItemExpiry s = .next (conclude (judgeItem s)) := congrArg Host.Outcome.next (if_pos ⟨hr, ht⟩)
  rw [hexec, conclude_of_sound (hd.congr (by simp) (by simp) (by simp) (by simp) (by simp))]

/-- A word read back wrong ends the test of a memory item (R190). -/
theorem exec_memoryMismatch {s : State} (h : s.test.inGroup 3 = true) (hd : DriveSound s) (a b : Word) :
    exec (.memoryMismatch a b) s = .next { endTest (some (s.test.failed .memory a.toNat b.toNat)) s with
      link := (endTest (some (s.test.failed .memory a.toNat b.toNat)) s).link.begin } := by
  have hexec : exec (.memoryMismatch a b) s = .next (conclude (endTest (some (s.test.failed .memory a.toNat b.toNat)) s)) :=
    congrArg Host.Outcome.next (if_pos h)
  rw [hexec, conclude_of_sound (hd.congr (by simp) (by simp) (by simp) (by simp) (by simp))]

end Sys2Proof.Machine

section
open Sys2Proof Sys2Proof.Machine

/-- Settles O59: the request starts the first item of its run, a read-back and a sample reach the item under test, and at the expiry
the item's verdict decides between the next item and the one report that ends the test. -/
theorem selfTestRunsItsItems : Obligations.SelfTestRunsItsItems := by
  unfold Obligations.SelfTestRunsItsItems
  refine fun s => ⟨fun tag g i first rest h ht hj hp hrun => ?_, fun valve position hr ht h1 => ?_,
    fun sample ch hr ht h2 hch hc hl hs hnr hd => ?_, fun hr ht hd => ⟨fun gi rest hpass hrest hgi => ?_, fun hpass hrest => ?_,
      fun f hf => ?_, fun a b f h3 hf => ?_⟩⟩
  · have hfirst : first ∈ testItems := (List.mem_filter.1 (hrun ▸ List.mem_cons_self)).1
    have ho := selfTestOwner_starts (s := s.setLink s.link.taken) hj hp ((runItems_eq_filter _ _).trans hrun.symm)
    rw [startItem_eq hfirst, itemTime_eq] at ho
    exact ⟨_, request_taken rfl h ht ho rfl, rfl, ⟨rfl, rfl, rfl, by rw [List.append_nil]; rfl⟩, answer_answered rfl⟩
  · exact exec_valveReadback (SelfTest.inGroup_iff.2 ⟨hr, h1, ht⟩) valve position
  · exact ⟨_, rfl, takeSampleStep_tested (SelfTest.inGroup_iff.2 ⟨hr, h2, ht⟩) hch hc hl hs hnr hd sample⟩
  · have hexec := exec_selfTestItemExpiry hr ht hd
    rw [judgeItem_next hpass hrest, startItem_eq hgi, itemTime_eq] at hexec
    exact ⟨_, hexec, rfl, rfl, rfl, rfl, rfl⟩
  · exact ⟨_, exec_selfTestItemExpiry hr ht hd, by rw [judgeItem_last hpass hrest]; rfl⟩
  · exact ⟨_, exec_selfTestItemExpiry hr ht hd, by rw [judgeItem_fails hf]; rfl⟩
  · rw [exec_memoryMismatch (SelfTest.inGroup_iff.2 ⟨hr, h3, ht⟩) hd, hf, SelfTest.failed, h3]
    rfl

end

namespace Sys2Proof.Machine

/-! ## Where a field stands in a request body (R193, R194) -/

/-- The bytes `field` stand in `body` from offset `i` on, counted as chapter 12 counts: `body` holds the bytes after kind and tag. -/
def StandsAt (body : List Byte) (i : Nat) (field : List Byte) : Prop :=
  ∃ pre post, body = pre ++ (field ++ post) ∧ i = 4 + pre.length

/-- What a signed 16-bit field can carry (R193). -/
def SignedWord (x : Int) : Prop := -32768 ≤ x ∧ x ≤ 32767

section
variable {body a b : List Byte} {i n : Nat} {x : Int}

theorem standsAt_self (body : List Byte) : StandsAt body 4 body := ⟨[], [], by simp, rfl⟩

theorem StandsAt.left (h : StandsAt body i (a ++ b)) : StandsAt body i a := by
  obtain ⟨pre, post, rfl, rfl⟩ := h
  exact ⟨pre, b ++ post, by simp, rfl⟩

theorem StandsAt.right (h : StandsAt body i (a ++ b)) : StandsAt body (i + a.length) b := by
  obtain ⟨pre, post, rfl, rfl⟩ := h
  exact ⟨pre ++ a, post, by simp, by rw [List.length_append, Nat.add_assoc]⟩

/-- A part of a layout stands behind the parts before it. -/
theorem StandsAt.part {parts : List (List Byte)} (h : StandsAt body i parts.flatten) {k : Nat} (hk : parts[k]? = some a) :
    StandsAt body (i + (parts.take k).flatten.length) a := by
  obtain ⟨hlt, rfl⟩ := List.getElem?_eq_some_iff.1 hk
  have hsplit : parts.flatten = (parts.take k).flatten ++ (parts[k] ++ (parts.drop (k + 1)).flatten) := by
    rw [← List.flatten_cons, ← List.drop_eq_getElem_cons hlt, ← List.flatten_append, List.take_append_drop]
  rw [hsplit] at h
  exact h.right.left

/-! ### The value read where a field stands -/

theorem StandsAt.byteAt_eq {v : Byte} (h : StandsAt body i [v]) : byteAt body i = v.toNat := by
  obtain ⟨pre, post, rfl, rfl⟩ := h
  simp [byteAt]

theorem StandsAt.byteAt_nat8 (h : StandsAt body i (nat8 n)) (hn : n < 256) : byteAt body i = n := by
  rw [h.byteAt_eq, BitVec.toNat_ofNat, Nat.mod_eq_of_lt hn]

theorem StandsAt.word {w : Word} (h : StandsAt body i (bytes16 w)) : BitVec.ofNat 16 (natAt body i) = w := by
  have hlow : StandsAt body i ([lowByte w] ++ [highByte w]) := h
  have hhigh : byteAt body (i + 1) = (highByte w).toNat := hlow.right.byteAt_eq
  rw [natAt, hlow.left.byteAt_eq, hhigh]
  exact wordOf_bytes w

theorem natAt_lt (body : List Byte) (i : Nat) : natAt body i < 65536 := by
  have hlow : byteAt body i < 256 := BitVec.isLt _
  have hhigh : byteAt body (i + 1) < 256 := BitVec.isLt _
  rw [natAt]
  omega

theorem StandsAt.natAt_mod (h : StandsAt body i (nat16 n)) : natAt body i = n % 65536 := by
  have hw := congrArg BitVec.toNat h.word
  rwa [BitVec.toNat_ofNat, BitVec.toNat_ofNat, Nat.mod_eq_of_lt (natAt_lt body i)] at hw

theorem StandsAt.natAt_nat16 (h : StandsAt body i (nat16 n)) (hn : n < 65536) : natAt body i = n := by
  rw [h.natAt_mod, Nat.mod_eq_of_lt hn]

theorem StandsAt.intAt_int16 (h : StandsAt body i (int16 x)) (hx : SignedWord x) : intAt body i = x := by
  obtain ⟨hlow, hhigh⟩ := hx
  rw [intAt, h.word, BitVec.toInt_ofInt]
  exact Int.bmod_eq_of_le (by omega) (by omega)

theorem StandsAt.nat32At_nat32 (h : StandsAt body i (nat32 n)) (hn : n < 4294967296) : nat32At body i = n := by
  have hhigh : natAt body (i + 2) = n / 65536 % 65536 := StandsAt.natAt_mod h.right
  rw [nat32At, h.left.natAt_mod, hhigh]
  omega

theorem StandsAt.int32At_int32 (h : StandsAt body i (int32 x)) (hlow : -2147483648 ≤ x) (hhigh : x ≤ 2147483647) :
    int32At body i = x := by
  rw [int32At, h.nat32At_nat32 (BitVec.isLt _), BitVec.ofNat_toNat, BitVec.setWidth_eq, BitVec.toInt_ofInt]
  exact Int.bmod_eq_of_le (by omega) (by omega)

end

/-! ## The bits of a byte of marks (R193) -/

theorem marks_lt (bs : List Bool) : marks bs < 2 ^ bs.length := by
  induction bs with
  | nil => decide
  | cons b bs ih =>
    rw [marks, List.length_cons, Nat.pow_succ]
    split <;> omega

theorem marks_cons_half (b : Bool) (bs : List Bool) : marks (b :: bs) / 2 = marks bs := by
  rw [marks]
  split <;> omega

theorem bit_marks (bs : List Bool) (i : Nat) : bit (marks bs) i = bs.getD i false := by
  induction bs generalizing i with
  | nil => simp [bit, marks]
  | cons b bs ih =>
    cases i with
    | zero => cases b <;> simp [bit, marks, Nat.testBit_zero]
    | succ i =>
      rw [bit, Nat.testBit_succ, marks_cons_half]
      exact ih i

theorem bitCount_zero (n : Nat) : bitCount n 0 = 0 := by
  induction n with
  | zero => rfl
  | succ n ih => rw [bitCount, ih]

theorem bitCount_marks_cons (n : Nat) (b : Bool) (bs : List Bool) :
    bitCount (n + 1) (marks (b :: bs)) = (if b then 1 else 0) + bitCount n (marks bs) := by
  have hlow : marks (b :: bs) % 2 = if b then 1 else 0 := by
    rw [marks]
    split <;> omega
  rw [bitCount, marks_cons_half, hlow]

theorem StandsAt.byteAt_marks {body : List Byte} {i : Nat} {bs : List Bool} (h : StandsAt body i (nat8 (marks bs)))
    (hbs : bs.length ≤ 8) : byteAt body i = marks bs :=
  h.byteAt_nat8 ((marks_lt bs).trans_le (Nat.pow_le_pow_right (by decide) hbs))

/-! ## Optional fields behind their presence byte (R3, R194) -/

/-- An optional field that stands in a body when its presence mark is set. -/
def sentWhen (present : Bool) (x : Int) : Option Int := if present then some x else none

/-- The bytes of an optional field: none when it is absent. -/
def optionalField : Option Int → List Byte
  | some x => int16 x
  | none => []

theorem optionalBytes_eq (present : Bool) (x : Int) : optionalBytes present x = optionalField (sentWhen present x) := by
  cases present <;> rfl

/-- An absent field is read as 0 (R3). -/
theorem sentWhen_getD {present : Bool} {x : Int} (h : present = false → x = 0) : (sentWhen present x).getD 0 = x := by
  cases present with
  | false => exact (h rfl).symm
  | true => rfl

/-- The presence marks below bit `n` count the bytes of the optional fields before the field of bit `n`. -/
theorem bitCount_present (os : List (Option Int)) (n : Nat) :
    2 * bitCount n (marks (os.map (·.isSome))) = ((os.map optionalField).take n).flatten.length := by
  induction os generalizing n with
  | nil => rw [List.map_nil, marks, bitCount_zero, List.map_nil, List.take_nil, List.flatten_nil, List.length_nil]
  | cons o os ih =>
    cases n with
    | zero => rfl
    | succ n =>
      have hfield : (optionalField o).length = 2 * if o.isSome then 1 else 0 := by cases o <;> rfl
      rw [List.map_cons, List.map_cons, List.take_succ_cons, List.flatten_cons, List.length_append, hfield, ← ih n,
        bitCount_marks_cons, Nat.mul_add]

/-- The optional field of a presence bit is the one that was sent. -/
theorem StandsAt.optionalAt_eq {body : List Byte} {os : List (Option Int)} {n : Nat} {o : Option Int}
    (h : StandsAt body 44 (os.map optionalField).flatten) (hp : byteAt body 9 = marks (os.map (·.isSome)))
    (hn : os[n]? = some o) (ho : ∀ x ∈ o, SignedWord x) : optionalAt body n = o := by
  have hbit : bit (byteAt body 9) n = o.isSome := by
    rw [hp, bit_marks, List.getD_eq_getElem?_getD, List.getElem?_map, hn]
    rfl
  cases o with
  | none => simp [optionalAt, hbit]
  | some x =>
    have hfield : StandsAt body (44 + ((os.map optionalField).take n).flatten.length) (int16 x) :=
      h.part (by rw [List.getElem?_map, hn]; rfl)
    rw [optionalAt, hbit, if_pos (by rfl), hp, bitCount_present, hfield.intAt_int16 (ho x rfl)]

/-! ## LOAD ENTRY (R194, R195) -/

/-- The settings of one unit, read where they stand. -/
theorem settingsAt_of_standsAt {body : List Byte} {i : Nat} {u : UnitSettings} (h : StandsAt body i (settingsBytes u))
    (hmask : u.mask < 16) (hins : u.insertions < 256) (hshift : SignedWord u.shift) (hdepth : SignedWord u.depth)
    (hpressure : SignedWord u.pressure) : settingsAt body i = u := by
  have hparts : StandsAt body i [nat8 u.mask, int16 u.shift, int16 u.depth, int16 u.pressure, nat8 u.insertions].flatten := by
    simpa [settingsBytes] using h
  have h0 : byteAt body i = u.mask := (hparts.part (k := 0) rfl).byteAt_nat8 (by omega)
  have h1 : intAt body (i + 1) = u.shift := (hparts.part (k := 1) rfl).intAt_int16 hshift
  have h3 : intAt body (i + 3) = u.depth := (hparts.part (k := 2) rfl).intAt_int16 hdepth
  have h5 : intAt body (i + 5) = u.pressure := (hparts.part (k := 3) rfl).intAt_int16 hpressure
  have h7 : byteAt body (i + 7) = u.insertions := (hparts.part (k := 4) rfl).byteAt_nat8 hins
  rw [settingsAt, h0, h1, h3, h5, h7, Nat.mod_eq_of_lt hmask]

/-- The marks of an entry's flag byte. -/
def Entry.flagMarks (e : Entry) : List Bool := [e.joinedNext, e.isEnd, e.hook, e.hookSide == .right]

/-- The five optional fields of an entry in the order of their presence bits, as a body sends them. -/
def Entry.optionals (front lift curv cant : Bool) (e : Entry) : List (Option Int) :=
  [sentWhen front e.frontOffset, sentWhen lift e.frontLift, sentWhen curv e.localCurv, sentWhen cant e.localCant, e.branch]

/-- The layout of a LOAD ENTRY body, part by part. -/
def Entry.parts (front lift curv cant : Bool) (e : Entry) : List (List Byte) :=
  [nat16 e.number, nat16 e.distance, nat8 (marks e.flagMarks), nat8 (marks ((e.optionals front lift curv cant).map (·.isSome))),
    int16 e.allowance, settingsBytes e.units.lo, settingsBytes e.units.li, settingsBytes e.units.ri, settingsBytes e.units.ro,
    ((e.optionals front lift curv cant).map optionalField).flatten]

section
variable (front lift curv cant : Bool) (e : Entry)

theorem encodeEntry_eq_parts : encodeEntry front lift curv cant e = (e.parts front lift curv cant).flatten := by
  have hmark : ∀ p x, (sentWhen p x).isSome = p := fun p x => by cases p <;> rfl
  rcases hbranch : e.branch with _ | x <;>
    simp only [encodeEntry, hbranch, optionalField, Entry.parts, Entry.flagMarks, Entry.optionals, optionalBytes_eq, hmark,
      Option.isSome_none, Option.isSome_some, List.map_cons, List.map_nil, List.flatten_cons, List.flatten_nil, List.append_assoc,
      List.append_nil]

theorem standsAt_parts : StandsAt (encodeEntry front lift curv cant e) 4 (e.parts front lift curv cant).flatten :=
  encodeEntry_eq_parts front lift curv cant e ▸ standsAt_self _

theorem byteAt_flags : byteAt (encodeEntry front lift curv cant e) 8 = marks e.flagMarks :=
  ((standsAt_parts front lift curv cant e).part (k := 2) rfl).byteAt_marks (by simp [Entry.flagMarks])

theorem byteAt_presence :
    byteAt (encodeEntry front lift curv cant e) 9 = marks ((e.optionals front lift curv cant).map (·.isSome)) :=
  ((standsAt_parts front lift curv cant e).part (k := 3) rfl).byteAt_marks (by simp [Entry.optionals])

theorem bit_flags (i : Nat) : bit (byteAt (encodeEntry front lift curv cant e) 8) i = e.flagMarks.getD i false := by
  rw [byteAt_flags, bit_marks]

/-- With kind and tag, the body is 44 bytes long and two more for each presence mark that is set (R174, R195). -/
theorem length_encodeEntry : bodyLength (encodeEntry front lift curv cant e) =
    44 + 2 * bitCount 5 (byteAt (encodeEntry front lift curv cant e) 9) := by
  have hlength : (e.parts front lift curv cant).flatten.length =
      ((e.optionals front lift curv cant).map optionalField).flatten.length + 40 := by
    simp [Entry.parts, settingsBytes, nat8, nat16, int16, length_bytes16]
    omega
  have hall : ((e.optionals front lift curv cant).map optionalField).take 5 =
      (e.optionals front lift curv cant).map optionalField := rfl
  rw [byteAt_presence, bitCount_present, hall, encodeEntry_eq_parts, bodyLength, hlength]
  omega

theorem loadFits_encodeEntry (hhook : e.hook = e.branch.isSome) : loadFits (encodeEntry front lift curv cant e) = true := by
  have hlt : byteAt (encodeEntry front lift curv cant e) 9 < 32 := byteAt_presence front lift curv cant e ▸ marks_lt _
  have hbranch : bit (byteAt (encodeEntry front lift curv cant e) 9) 4 = bit (byteAt (encodeEntry front lift curv cant e) 8) 2 := by
    rw [byteAt_presence, bit_marks, bit_flags]
    exact hhook.symm
  rw [loadFits, decide_eq_true (length_encodeEntry front lift curv cant e), decide_eq_true hlt, hbranch, beq_self_eq_true]
  rfl

end

/-- One unit's setpoints are among the entry's (R12). -/
theorem Entry.unit_setpoints (e : Entry) (u : UnitId) : ∃ code, (e.units.get u).setpoints code ⊆ e.setpoints := by
  cases u with
  | lo => exact ⟨2, fun x hx => by simp [Entry.setpoints, show x ∈ e.units.lo.setpoints 2 from hx]⟩
  | li => exact ⟨6, fun x hx => by simp [Entry.setpoints, show x ∈ e.units.li.setpoints 6 from hx]⟩
  | ri => exact ⟨10, fun x hx => by simp [Entry.setpoints, show x ∈ e.units.ri.setpoints 10 from hx]⟩
  | ro => exact ⟨14, fun x hx => by simp [Entry.setpoints, show x ∈ e.units.ro.setpoints 14 from hx]⟩

section
variable {e : Entry} (hset : ∀ x ∈ e.setpoints, SignedWord x.value)
include hset

theorem Entry.allowance_signed : SignedWord e.allowance := hset ⟨1, 0, 100, e.allowance⟩ (by simp [Entry.setpoints])

theorem Entry.unit_signed (u : UnitId) :
    SignedWord (e.units.get u).shift ∧ SignedWord (e.units.get u).depth ∧ SignedWord (e.units.get u).pressure := by
  obtain ⟨code, hsub⟩ := e.unit_setpoints u
  exact ⟨hset ⟨code, 0, 400, _⟩ (hsub (by simp [UnitSettings.setpoints])),
    hset ⟨code + 1, 400, 650, _⟩ (hsub (by simp [UnitSettings.setpoints])),
    hset ⟨code + 2, 60, 150, _⟩ (hsub (by simp [UnitSettings.setpoints]))⟩

theorem Entry.optionals_signed {front lift curv cant : Bool} {o : Option Int} (ho : o ∈ e.optionals front lift curv cant) :
    ∀ x ∈ o, SignedWord x := by
  have hsent {p : Bool} {x y : Int} (hx : SignedWord x) (hy : y ∈ sentWhen p x) : SignedWord y := by
    cases p with
    | false => cases hy
    | true => cases hy; exact hx
  intro x hx
  simp only [Entry.optionals, List.mem_cons, List.not_mem_nil, or_false] at ho
  rcases ho with rfl | rfl | rfl | rfl | rfl
  · exact hsent (hset ⟨18, -1500, 1500, _⟩ (by simp [Entry.setpoints])) hx
  · exact hsent (hset ⟨19, 0, 1500, _⟩ (by simp [Entry.setpoints])) hx
  · exact hsent (hset ⟨20, -10000, 10000, _⟩ (by simp [Entry.setpoints])) hx
  · exact hsent (hset ⟨21, -1800, 1800, _⟩ (by simp [Entry.setpoints])) hx
  · exact hset ⟨22, -200, 200, x⟩ (by simp [Entry.setpoints, Option.mem_def.1 hx])

/-- Every optional field is read as the body sends it. -/
theorem optionalAt_encodeEntry {front lift curv cant : Bool} {n : Nat} {o : Option Int}
    (hn : (e.optionals front lift curv cant)[n]? = some o) : optionalAt (encodeEntry front lift curv cant e) n = o :=
  StandsAt.optionalAt_eq ((standsAt_parts front lift curv cant e).part (k := 9) rfl) (byteAt_presence front lift curv cant e) hn
    (Entry.optionals_signed hset (List.mem_of_getElem? hn))

end

/-- The entry read from a body is the one it was made from (R3, R194). -/
theorem decodeEntry_encodeEntry {front lift curv cant : Bool} {e : Entry} (hfront : front = false → e.frontOffset = 0)
    (hlift : lift = false → e.frontLift = 0) (hcurv : curv = false → e.localCurv = 0) (hcant : cant = false → e.localCant = 0)
    (hnumber : e.number < 65536) (hdistance : e.distance < 65536)
    (hunits : ∀ u, (e.units.get u).mask < 16 ∧ (e.units.get u).insertions < 256)
    (hset : ∀ x ∈ e.setpoints, SignedWord x.value) : decodeEntry (encodeEntry front lift curv cant e) = e := by
  have hbody := standsAt_parts front lift curv cant e
  have hopt {n : Nat} {o : Option Int} (hn : (e.optionals front lift curv cant)[n]? = some o) := optionalAt_encodeEntry hset hn
  have hflag := bit_flags front lift curv cant e
  have hunit (u : UnitId) {i : Nat} (h : StandsAt (encodeEntry front lift curv cant e) i (settingsBytes (e.units.get u))) :
      settingsAt (encodeEntry front lift curv cant e) i = e.units.get u := by
    obtain ⟨hmask, hins⟩ := hunits u
    obtain ⟨hshift, hdepth, hpressure⟩ := Entry.unit_signed hset u
    exact settingsAt_of_standsAt h hmask hins hshift hdepth hpressure
  have hside : (if e.hookSide == .right then Side.right else Side.left) = e.hookSide := by cases e.hookSide <;> rfl
  rw [decodeEntry]
  generalize encodeEntry front lift curv cant e = body at *
  have h4 : natAt body 4 = e.number := (hbody.part (k := 0) rfl).natAt_nat16 hnumber
  have h6 : natAt body 6 = e.distance := (hbody.part (k := 1) rfl).natAt_nat16 hdistance
  have h10 : intAt body 10 = e.allowance := (hbody.part (k := 4) rfl).intAt_int16 (Entry.allowance_signed hset)
  have h12 : settingsAt body 12 = e.units.lo := hunit .lo (hbody.part (k := 5) rfl)
  have h20 : settingsAt body 20 = e.units.li := hunit .li (hbody.part (k := 6) rfl)
  have h28 : settingsAt body 28 = e.units.ri := hunit .ri (hbody.part (k := 7) rfl)
  have h36 : settingsAt body 36 = e.units.ro := hunit .ro (hbody.part (k := 8) rfl)
  rw [h4, h6, h10, h12, h20, h28, h36, hflag, hflag, hflag, hflag, hopt (n := 0) rfl, hopt (n := 1) rfl, hopt (n := 2) rfl,
    hopt (n := 3) rfl, hopt (n := 4) rfl, sentWhen_getD hfront, sentWhen_getD hlift, sentWhen_getD hcurv, sentWhen_getD hcant]
  exact congrArg (fun side => { e with hookSide := side }) hside

/-! ## TABLE SEGMENT (R76, R194) -/

theorem kindOfCode_kindCode (k : SegmentKind) : kindOfCode (kindCode k) = some k := by cases k <;> rfl

theorem kindCode_lt (k : SegmentKind) : kindCode k < 256 := by cases k <;> decide

/-- The layout of a TABLE SEGMENT body, part by part. -/
def Segment.parts (g : Segment) : List (List Byte) :=
  [nat8 g.index, nat8 (kindCode g.kind), int32 g.start, int32 g.length, int16 g.k0, int16 g.k1, int16 g.cant0, int16 g.cant1]

theorem segmentBytes_eq_parts (g : Segment) : segmentBytes g = g.parts.flatten := by
  simp only [segmentBytes, Segment.parts, List.flatten_cons, List.flatten_nil, List.append_assoc, List.append_nil]

theorem length_segmentBytes (g : Segment) : (segmentBytes g).length = 18 := rfl

/-- The segment read from a body is the one it was made from (R194). -/
theorem stored_decodeSegment {g : Segment} (hindex : g.index < 256) (hs : -2147483648 ≤ g.start ∧ g.start ≤ 2147483647)
    (hl : -2147483648 ≤ g.length ∧ g.length ≤ 2147483647)
    (hw : ∀ x ∈ [g.k0, g.k1, g.cant0, g.cant1], SignedWord x) : (decodeSegment (segmentBytes g)).stored = some g := by
  have hbody : StandsAt (segmentBytes g) 4 g.parts.flatten := segmentBytes_eq_parts g ▸ standsAt_self _
  generalize segmentBytes g = body at *
  have h4 : byteAt body 4 = g.index := (hbody.part (k := 0) rfl).byteAt_nat8 hindex
  have h5 : byteAt body 5 = kindCode g.kind := (hbody.part (k := 1) rfl).byteAt_nat8 (kindCode_lt g.kind)
  have h6 : int32At body 6 = g.start := (hbody.part (k := 2) rfl).int32At_int32 hs.1 hs.2
  have h10 : int32At body 10 = g.length := (hbody.part (k := 3) rfl).int32At_int32 hl.1 hl.2
  have h14 : intAt body 14 = g.k0 := (hbody.part (k := 4) rfl).intAt_int16 (hw _ (by simp))
  have h16 : intAt body 16 = g.k1 := (hbody.part (k := 5) rfl).intAt_int16 (hw _ (by simp))
  have h18 : intAt body 18 = g.cant0 := (hbody.part (k := 6) rfl).intAt_int16 (hw _ (by simp))
  have h20 : intAt body 20 = g.cant1 := (hbody.part (k := 7) rfl).intAt_int16 (hw _ (by simp))
  rw [decodeSegment, h4, h5, h6, h10, h14, h16, h18, h20, OfferedSegment.stored, kindOfCode_kindCode]
  rfl

end Sys2Proof.Machine

section
open Sys2Proof Sys2Proof.Machine

/-- Settles O16: each layout is a list of parts, every part stands behind the parts before it, and an optional field stands where
the presence marks below its own count to. -/
theorem requestBodiesRoundTrip : Obligations.RequestBodiesRoundTrip := by
  unfold Obligations.RequestBodiesRoundTrip
  refine ⟨fun front lift curv cant e hfront hlift hcurv hcant hnumber hdistance hhook hunits hset => ?_,
    fun g hindex hs hs' hl hl' hw => ?_⟩
  · exact ⟨loadFits_encodeEntry front lift curv cant e hhook,
      decodeEntry_encodeEntry hfront hlift hcurv hcant hnumber hdistance hunits hset⟩
  · exact ⟨length_segmentBytes g, stored_decodeSegment hindex ⟨hs, hs'⟩ ⟨hl, hl'⟩ hw⟩

end
